-- ==== Sys2Proof/Word.lean ====
section
/-!
DEFINITION. The two word types of the machine: the 8-bit byte of a memory cell or an 8-bit register, and the
16-bit value of an address, of SP, of PC or of a register pair (00_scope.md R8, R10).
-/

namespace Sys2Proof

/-- An 8-bit value: a general register, a memory cell, an immediate `n8` or `e8` (R8, R10). -/
abbrev Byte := BitVec 8

/-- A 16-bit value: an address, SP, PC, a register pair, an immediate `n16` (R8, R10). -/
abbrev Word := BitVec 16

end Sys2Proof
end

