-- ==== Sys2Proof/Machine/Bits.lean ====
section
/-!
DEFINITION. The bit-field, byte-order and extension helpers of the notation (00_scope.md R10).
-/

namespace Sys2Proof

/-- `v[15:8]` (R10). -/
def hi8 (v : Word) : Byte := v.extractLsb' 8 8

/-- `v[7:0]` (R10). -/
def lo8 (v : Word) : Byte := v.extractLsb' 0 8

/-- `zext_16` (R10). -/
def zext16 (v : Byte) : Word := v.setWidth 16

/-- `hi : lo`, the more significant byte first (R10). -/
def pair16 (hi lo : Byte) : Word := (zext16 hi <<< 8) ||| zext16 lo

/-- `sext_16` (R10). -/
def sext16 (v : Byte) : Word := v.signExtend 16

end Sys2Proof
end

