-- ==== Sys2Proof/Config.lean ====
section
/-!
DEFINITION. What a machine is configured with (00_scope.md R9) and the free values of the model: constants
without a body, so that nothing can be proved of what they answer. The parameters themselves are held in
`State.cfg`, which no step changes, so a claim about every state is a claim about every configuration.
-/

namespace Sys2Proof

/-- The parameter `Variant` of R9: the original Game Boy or the Game Boy Color. It decides whether the
"GBC only" registers exist and whether STOP can switch speed (R346, R400). -/
inductive Variant where
  | dmg
  | cgb
deriving DecidableEq, Repr

/-- The controller kinds the spec gives registers for (R65, R67, R68, D29). A cartridge with any other
controller is refused at configuration: it has no value of this type (U12, log 19). -/
inductive Controller where
  /-- No controller (type $00): writes to $0000 to $7FFF are ignored, $A000 to $BFFF is unmapped (R68). -/
  | none
  | mbc3
  | mbc5
deriving DecidableEq, Repr

/-- The parameter `Cartridge` of R9, without its ROM bytes: those stand in the machine's memory (R62, log 6). -/
structure Cartridge where
  controller : Controller
  /-- How many 16 KiB ROM banks the cartridge has (R62, R69). -/
  romBanks : Nat
  /-- How many bytes of RAM the cartridge has (R62, R69). -/
  ramBytes : Nat
  /-- An MBC3 with a clock: the X of R69's column Timer. -/
  timer : Bool
  /-- A Rumble Pak is installed: RAMB bits 1 to 0 select the RAM bank, bit 3 is the motor (R67 Note 1). -/
  rumble : Bool
deriving DecidableEq, Repr

/-- The parameter `UNMAPPED_ACCESS` of R9: what an access to $E000 to $FDFF or $FEA0 to $FEFF does (R52, D17). -/
inductive UnmappedAccess where
  /-- A read is answered by `DeviceOracle`, a write has no specified effect: the default. -/
  | oracle
  /-- The model stops with an out-of-spec marker (log 15). -/
  | refuse
deriving DecidableEq, Repr

/-- The configuration parameters of R9 that the machine itself consults. The others: `ResetState` is the argument of
`State.start`, `EndOfRun` the argument of `run` (Machine/Run.lean), `DeviceOracle` the free values below and the
events of `State.inbox`. -/
structure Params where
  variant : Variant
  cartridge : Cartridge
  /-- `ROTA_Z_FROM_SOURCE`: RLCA, RLA, RRCA, RRA set Z from the result (R261 to R264). -/
  rotaZFromSource : Bool
  /-- `ADDHL_Z_FROM_SOURCE`: ADD HL,r16 sets Z from the result (R241). -/
  addhlZFromSource : Bool
  /-- `UNMAPPED_ACCESS` (R52). -/
  unmapped : UnmappedAccess
deriving DecidableEq, Repr

/-- DESIGN CHOICE (log 5). The configuration of the machine that `State.reset` describes: a DMG with a 32 KiB
cartridge without a controller, and the two Booleans and `UNMAPPED_ACCESS` of R9 at their default. -/
def Params.default : Params where
  variant := .dmg
  cartridge := { controller := .none, romBanks := 2, ramBytes := 0, timer := false, rumble := false }
  rotaZFromSource := false
  addhlZFromSource := false
  unmapped := .oracle

/-- The free value of the model: what `DeviceOracle` answers (R9, R70, R75; log 7). It may depend on how many
free bytes were drawn before, on the device writes made so far and on the address. It has no body. -/
opaque Config.oracleByte : Nat → List (Nat × Byte) → Nat → Byte

/-- Which ROM bank shows at $4000 when the bank number written is one the spec does not list: 0, or one beyond
the cartridge's size (R68, U11; log 16). It has no body; the answer is taken modulo the number of banks. -/
opaque Config.romBankShown : Controller → Nat → Nat

/-- Which RAM bank shows at $A000 when the bank number written is beyond the RAM's size (R68, U11; log 16).
It has no body; the answer is taken modulo the number of banks plus one, the last value standing for none. -/
opaque Config.ramBankShown : Controller → Nat → Nat

/-- What an MBC3 shows at $A000 when the value selected is neither $00 to $03 nor $08 to $0C (U11; log 16). It has
no body; the answer is taken modulo 10: a RAM bank (0 to 3), a clock register (4 to 8) or nothing (9). -/
opaque Config.mbc3Selected : Nat → Nat

/-- OAM DMA copies 160 bytes (R396). -/
def Config.oamDmaBytes : Nat := 160

/-- Interrupt entry takes 5 machine cycles (R368, R464). -/
def Config.interruptEntryClk : Nat := 5

end Sys2Proof
end

