-- ==== Sys2Proof/Machine/State.lean ====
section
/-!
DEFINITION. The machine's state as plain data: everything 10_state.md, 20_memory.md and 60_exceptions.md give it
(INVENTORY.md, heading State), the reasons a step can stop, and the state after reset (R38, R440, R441).
-/

namespace Sys2Proof.Machine

/-- The four flags of F, bits 7 to 4; bits 3 to 0 always read as zero and are not held (R26, R27). -/
structure Flags where
  z : Bool
  n : Bool
  h : Bool
  c : Bool
deriving DecidableEq, Repr

/-- The register file (R20). AF, BC, DE and HL are views of these (R22). -/
structure Regs where
  a : Byte
  f : Flags
  b : Byte
  c : Byte
  d : Byte
  e : Byte
  h : Byte
  l : Byte
  sp : Word
  pc : Word
deriving DecidableEq, Repr

/-- The four modes of R33. -/
inductive Mode where
  | running
  | halted
  | stopped
  | locked
deriving DecidableEq, Repr

/-- The two bits of KEY1 that are CPU state on CGB: bit 7 the speed, bit 0 the prepared switch (R35, R400). -/
structure Key1 where
  speed : Bool
  prepare : Bool
deriving DecidableEq, Repr

/-- The five clock registers of an MBC3 (R65). -/
structure Clock where
  sec : Byte
  min : Byte
  hrs : Byte
  dayl : Byte
  dayh : Byte
deriving DecidableEq, Repr

/-- Which clock register: the values $08 to $0C of the RAM bank / clock select (R65). -/
inductive ClockReg where
  | sec | min | hrs | dayl | dayh
deriving DecidableEq, Repr

/-- The registers of the cartridge's controller (R65, R67). -/
structure CartRegs where
  /-- RAMG, $0000 to $1FFF. -/
  ramg : Byte
  /-- ROMB of an MBC3, ROMB0 of an MBC5. -/
  romb0 : Byte
  /-- ROMB1 of an MBC5: bit 8 of the ROM bank number. -/
  romb1 : BitVec 1
  /-- RAM bank / clock select of an MBC3, RAMB of an MBC5. -/
  ramb : Byte
  /-- MBC3: $00 was the last value written to the clock latch (R65 Note 2). -/
  latchArmed : Bool
  /-- MBC3: the running clock. -/
  live : Clock
  /-- MBC3: the clock data the program reads. -/
  latched : Clock
deriving DecidableEq, Repr

/-- The five interrupt sources (R361, R363), in the order of their bits and of their priority (R367). -/
inductive Irq where
  | vblank | lcd | timer | serial | joypad
deriving DecidableEq, Repr

/-- What the devices may do between two steps (R75, R364; log 9). -/
inductive DevEvent where
  /-- A device sets its bit of IF (R364). -/
  | request (k : Irq)
  /-- A joypad line goes low: the event that ends STOP (R346, R366). -/
  | joypadLow
  /-- The LCD controller enters a mode: STAT bits 1 to 0, the OAM/VRAM lock (R385, R454). -/
  | lcdMode (m : BitVec 2)
  /-- A device changes the byte of VRAM at $8000 + off in a bank (R75, R397). -/
  | depositVram (bank : BitVec 1) (off : BitVec 13) (v : Byte)
  /-- A device changes the byte of OAM at $FE00 + off (R75, R396). -/
  | depositOam (off : BitVec 8) (v : Byte)
  /-- A GDMA or HDMA transfer ends (R397). -/
  | vramDmaEnd
  /-- The OAM DMA ends: when is the devices' to say (R75, R396, R460; log 11). -/
  | oamDmaEnd
  /-- The MBC3's clock, while it is not stopped, changes a live register (R65, R443; log 18). -/
  | clockTick (r : ClockReg) (v : Byte)
deriving DecidableEq, Repr

/-- Memory: the bytes that differ from what an unlisted byte reads as, by rising key (Machine/Memory.lean). -/
abbrev Memory := List Host.Cell

/-- The machine (INVENTORY.md, heading State). -/
structure State where
  regs : Regs
  /-- The interrupt master enable (R31). -/
  ime : Bool
  /-- `ei_delay` (R32). -/
  eiDelay : Bool
  mode : Mode
  /-- IF, $FF0F: five request bits (R361). -/
  ifReg : BitVec 5
  /-- IE, $FFFF (R362). -/
  ie : Byte
  /-- KEY1 bits 7 and 0 (R400). -/
  key1 : Key1
  /-- VBK bit 0 (R398, log 13). -/
  vbk : BitVec 1
  /-- SVBK bits 2 to 0 (R398, log 13). -/
  svbk : BitVec 3
  /-- ROM, VRAM, cartridge RAM, work RAM, OAM and High RAM, every bank of them (R51, R62). -/
  mem : Memory
  cart : CartRegs
  /-- STAT bits 1 to 0 as the OAM/VRAM lock (R385, R454; log 10). -/
  lcdMode : BitVec 2
  /-- An OAM DMA is in progress: the CPU can reach High RAM only (R37, R396; log 11). -/
  oamDma : Bool
  /-- A GDMA or HDMA is in progress and owns VRAM (R37, R397; log 12). -/
  vramDma : Bool
  /-- The device writes made so far, newest first: "the model records the write" (R71; log 8). -/
  devLog : List Host.Cell
  /-- The model's own: how many free bytes were drawn (log 7). -/
  queries : Nat
  /-- The model's own: what the devices do before each coming step; an empty list raises nothing (R364; log 9). -/
  inbox : List (List DevEvent)
  /-- Machine cycles spent (R460; log 23). -/
  clk : Nat
  /-- The model's own, the out-of-spec marker of R52: an access of the step in progress met an address in no row of the
  memory map while `UNMAPPED_ACCESS` is `refuse` (log 15). -/
  outOfSpec : Bool
  /-- The model's own: the parameters of R9, which no step changes. -/
  cfg : Params
deriving DecidableEq, Repr

/-- The faults of a step. There are none: no instruction traps and no access faults (R57, R60, R360), and an
undefined opcode leads to the state `Mode.locked`, from which no step leads away (log 22). -/
inductive Fault where
deriving DecidableEq, Repr

/-- Why a step is refused (R13, R52, R365, R466). -/
inductive Refusal where
  /-- Raised by an arm of `exec` whose instruction has no meaning yet. Safe: the machine stops. -/
  | notModelled (mnemonic : String)
  /-- Raised by HALT with IME = 0 while an enabled request is pending (R344, R365, D8). Safe: the spec refuses. -/
  | haltPending
  /-- Raised by STOP while an enabled request is pending, other than for a speed switch (R346, R365, D9). Safe: the
  spec refuses. -/
  | stopPending
  /-- Raised by a step whose instruction or interrupt entry set the out-of-spec marker: an access to $E000 to $FDFF or
  $FEA0 to $FEFF under `UNMAPPED_ACCESS = refuse` (R52, R466, D17; log 15). Safe: the spec refuses. -/
  | unmappedAccess
deriving DecidableEq, Repr

/-- The record `ResetState` of R441: every start value the source does not give. Contents of RAM and ROM are the
memory's. -/
structure ResetState where
  a : Byte
  f : Flags
  b : Byte
  c : Byte
  d : Byte
  e : Byte
  h : Byte
  l : Byte
  sp : Word
  ifReg : BitVec 5
  ie : Byte
  key1 : Key1
  mem : Memory
  cart : CartRegs
deriving DecidableEq, Repr

/-- PRESUMED (log 18): the MBC3 clock at reset. -/
def Clock.zero : Clock := { sec := 0, min := 0, hrs := 0, dayl := 0, dayh := 0 }

/-- PRESUMED (log 4): a controller starts with ROM bank 1 at $4000 and cartridge RAM disabled (R63). -/
def CartRegs.initial : CartRegs where
  ramg := 0
  romb0 := 1
  romb1 := 0
  ramb := 0
  latchArmed := false
  live := Clock.zero
  latched := Clock.zero

/-- PRESUMED (logs 2 and 3): the values R38 reports for the DMG, with KEY1 at 1x; memory lists nothing. -/
def ResetState.presumed : ResetState where
  a := 0x01
  f := { z := true, n := false, h := true, c := true }
  b := 0x00
  c := 0x13
  d := 0x00
  e := 0xD8
  h := 0x01
  l := 0x4D
  sp := 0xFFFE
  ifReg := 0x01
  ie := 0x00
  key1 := { speed := false, prepare := false }
  mem := []
  cart := CartRegs.initial

/-- The state a run starts in, for a given `ResetState` and configuration: pc = $0100, IME = 0, ei_delay = 0, mode =
Running, everything else as `ResetState` gives it (R38, R440, R441). The model's own fields start empty. -/
def State.start (r : ResetState) (cfg : Params) : State where
  regs := { a := r.a, f := r.f, b := r.b, c := r.c, d := r.d, e := r.e, h := r.h, l := r.l, sp := r.sp, pc := 0x0100 }
  ime := false
  eiDelay := false
  mode := .running
  ifReg := r.ifReg
  ie := r.ie
  key1 := r.key1
  vbk := 0
  svbk := 0
  mem := r.mem
  cart := r.cart
  lcdMode := 0
  oamDma := false
  vramDma := false
  devLog := []
  queries := 0
  inbox := []
  clk := 0
  outOfSpec := false
  cfg := cfg

/-- The machine right after reset (R38, R440; the values the spec leaves to `ResetState` are those of logs 1 to 5). -/
def State.reset : State := State.start ResetState.presumed Params.default

/-- The outcome of an instruction or a step. -/
abbrev Result := Host.Outcome State Fault Refusal

end Sys2Proof.Machine
end

