-- ==== Sys2Proof/Machine/Flags.lean ====
section
/-!
DEFINITION. Every result and flag computation of the instruction set, on plain values: 8-bit sums and differences
(42_alu8.md R214 to R217), the logic operations (R216), DAA (R194), the 16-bit sums (43_alu16.md R241, R242), the
rotates and shifts (44_rotate_shift_bit.md R260) and the bit test (R281).
-/

namespace Sys2Proof.Machine

/-- `add8(a, b, cin)` (R214). -/
def add8 (a b : Byte) (cin : Bool) : Byte × Flags :=
  let s := a.toNat + b.toNat + cin.toNat
  let r := BitVec.ofNat 8 s
  (r, { z := r == 0
        n := false
        h := decide ((a &&& 0x0F).toNat + (b &&& 0x0F).toNat + cin.toNat > 0x0F)
        c := decide (s > 0xFF) })

/-- `sub8(a, b, cin)` (R215). -/
def sub8 (a b : Byte) (cin : Bool) : Byte × Flags :=
  let d : Int := (a.toNat : Int) - (b.toNat : Int) - (cin.toNat : Int)
  let r := BitVec.ofInt 8 d
  (r, { z := r == 0
        n := true
        h := decide ((a &&& 0x0F).toNat < (b &&& 0x0F).toNat + cin.toNat)
        c := decide (a.toNat < b.toNat + cin.toNat) })

/-- Flags of a logic operation with result `r`; H is 1 for AND and 0 for OR and XOR (R216). -/
def logicFlags (r : Byte) (h : Bool) : Flags := { z := r == 0, n := false, h := h, c := false }

/-- `inc8(v)`; C keeps its value (R217). -/
def inc8 (v : Byte) (f : Flags) : Byte × Flags :=
  let r := v + 1
  (r, { f with z := r == 0, n := false, h := v &&& 0x0F == 0x0F })

/-- `dec8(v)`; C keeps its value (R217). -/
def dec8 (v : Byte) (f : Flags) : Byte × Flags :=
  let r := v - 1
  (r, { f with z := r == 0, n := true, h := v &&& 0x0F == 0x00 })

/-- DAA (R194): the adjustment, then Z from the result, N kept, H cleared, C as the adjustment says. -/
def daa8 (a : Byte) (f : Flags) : Byte × Flags :=
  let low : Byte := if f.h || (!f.n && decide ((a &&& 0x0F).toNat > 0x09)) then 0x06 else 0x00
  let carry := f.c || (!f.n && decide (a.toNat > 0x99))
  let adj := low ||| (if carry then 0x60 else 0x00)
  let r := if f.n then a - adj else a + adj
  (r, { z := r == 0, n := f.n, h := false, c := carry })

/-- ADD HL,r16 (R241): H is the carry out of bit 11, C out of bit 15; Z keeps its value unless
`ADDHL_Z_FROM_SOURCE` is set. -/
def addHl16 (zFromSource : Bool) (a b : Word) (f : Flags) : Word × Flags :=
  let s := a.toNat + b.toNat
  let r := BitVec.ofNat 16 s
  (r, { z := if zFromSource then r == 0 else f.z
        n := false
        h := decide ((a &&& 0x0FFF).toNat + (b &&& 0x0FFF).toNat > 0x0FFF)
        c := decide (s > 0xFFFF) })

/-- SP + e8 (R163, R242): H and C are the carries out of bits 3 and 7 of the unsigned sum of SP's low byte and the
byte e, whatever the sign of e. -/
def addSp8 (s : Word) (e : Byte) : Word × Flags :=
  (s + sext16 e,
    { z := false
      n := false
      h := decide ((s &&& 0x000F).toNat + (zext16 e &&& 0x000F).toNat > 0x000F)
      c := decide ((s &&& 0x00FF).toNat + (zext16 e).toNat > 0x00FF) })

/-- The eight operations of `rot` (R260). -/
inductive RotOp where
  | rlc | rrc | rl | rr | sla | sra | srl | swap
deriving DecidableEq, Repr

/-- A carry as bit 0 of a byte. -/
def bit0 (c : Bool) : Byte := if c then 0x01 else 0x00

/-- A carry as bit 7 of a byte. -/
def bit7 (c : Bool) : Byte := if c then 0x80 else 0x00

/-- `rot(op, v, cin)`: the result and the carry out (R260). -/
def rot (op : RotOp) (v : Byte) (cin : Bool) : Byte × Bool :=
  match op with
  | .rlc => ((v <<< 1) ||| bit0 (v.getLsbD 7), v.getLsbD 7)
  | .rrc => ((v >>> 1) ||| bit7 (v.getLsbD 0), v.getLsbD 0)
  | .rl => ((v <<< 1) ||| bit0 cin, v.getLsbD 7)
  | .rr => ((v >>> 1) ||| bit7 cin, v.getLsbD 0)
  | .sla => (v <<< 1, v.getLsbD 7)
  | .sra => ((v >>> 1) ||| (v &&& 0x80), v.getLsbD 0)
  | .srl => (v >>> 1, v.getLsbD 0)
  | .swap => ((v <<< 4) ||| (v >>> 4), false)

/-- A $CB-page rotate or shift: Z from the result, N and H cleared, C the carry out (R260). -/
def rotFlagged (op : RotOp) (v : Byte) (f : Flags) : Byte × Flags :=
  let d := rot op v f.c
  (d.1, { z := d.1 == 0, n := false, h := false, c := d.2 })

/-- A rotate of A by RLCA, RLA, RRCA or RRA: Z cleared, or from the result with `ROTA_Z_FROM_SOURCE` (R261 to
R264). -/
def rotAFlagged (zFromSource : Bool) (op : RotOp) (v : Byte) (f : Flags) : Byte × Flags :=
  let d := rot op v f.c
  (d.1, { z := zFromSource && d.1 == 0, n := false, h := false, c := d.2 })

/-- BIT (R281): Z is the complement of the bit, C keeps its value. -/
def bitFlags (b : BitVec 3) (v : Byte) (f : Flags) : Flags :=
  { f with z := !v.getLsbD b.toNat, n := false, h := true }

/-- RES: the bit cleared (R283). -/
def resBit (b : BitVec 3) (v : Byte) : Byte := v &&& ~~~((1 : Byte) <<< b.toNat)

/-- SET: the bit set (R285). -/
def setBit (b : BitVec 3) (v : Byte) : Byte := v ||| ((1 : Byte) <<< b.toNat)

end Sys2Proof.Machine
end

