-- ==== Sys2Proof/Syntax.lean ====
section
/-!
DEFINITION. The instruction set: one constructor per row of opcode_table.json (30_encoding.md R118, R119: the 101
forms; R112: the 11 undefined opcode bytes), in the table's order.
-/

namespace Sys2Proof

/-- The seven 8-bit registers an instruction names as `r8` (R21, R94). Code 110 is the (HL) form, which has
constructors of its own. -/
inductive R8 where
  | a | b | c | d | e | h | l
deriving DecidableEq, Repr

/-- The pairs of LD r16,n16, INC r16, DEC r16 and ADD HL,r16 (R95). -/
inductive R16 where
  | bc | de | hl | sp
deriving DecidableEq, Repr

/-- The pairs of PUSH and POP (R96). -/
inductive R16Stk where
  | bc | de | hl | af
deriving DecidableEq, Repr

/-- The pairs that address memory in LD (r16),A and LD A,(r16) (R98, R134, R136). -/
inductive R16Mem where
  | bc | de
deriving DecidableEq, Repr

/-- The four conditions (R97, R310). -/
inductive Cond where
  | nz | z | nc | c
deriving DecidableEq, Repr

/-- Every row of the opcode table. Immediates are held as the bytes or the word they spell (R100): `e8` as the
byte, sign-extended where it is used; `n16` as the 16-bit value. -/
inductive Instr where
  /-- ADC A,(HL) (R180). -/
  | adcAHL
  /-- ADC A,n8 (R181). -/
  | adcAN8 (n : Byte)
  /-- ADC A,r8 (R182). -/
  | adcAR8 (r : R8)
  /-- ADD A,(HL) (R183). -/
  | addAHL
  /-- ADD A,n8 (R184). -/
  | addAN8 (n : Byte)
  /-- ADD A,r8 (R185). -/
  | addAR8 (r : R8)
  /-- ADD HL,r16 (R241). -/
  | addHLR16 (p : R16)
  /-- ADD SP,e8 (R242). -/
  | addSPE8 (e : Byte)
  /-- AND (HL) (R186). -/
  | andHL
  /-- AND n8 (R187). -/
  | andN8 (n : Byte)
  /-- AND r8 (R188). -/
  | andR8 (r : R8)
  /-- BIT n3,(HL) (R281). -/
  | bitHL (b : BitVec 3)
  /-- BIT n3,r8 (R282). -/
  | bitR8 (b : BitVec 3) (r : R8)
  /-- CALL cc,n16 (R311). -/
  | callCC (cc : Cond) (a : Word)
  /-- CALL n16 (R312). -/
  | callN16 (a : Word)
  /-- CCF (R189). -/
  | ccf
  /-- CP (HL) (R190). -/
  | cpHL
  /-- CP n8 (R191). -/
  | cpN8 (n : Byte)
  /-- CP r8 (R192). -/
  | cpR8 (r : R8)
  /-- CPL (R193). -/
  | cpl
  /-- DAA (R194). -/
  | daa
  /-- DEC (HL) (R195). -/
  | decHL
  /-- DEC r16 (R243). -/
  | decR16 (p : R16)
  /-- DEC r8 (R196). -/
  | decR8 (r : R8)
  /-- DI (R341). -/
  | di
  /-- EI (R342). -/
  | ei
  /-- HALT (R344). -/
  | halt
  /-- INC (HL) (R197). -/
  | incHL
  /-- INC r16 (R244). -/
  | incR16 (p : R16)
  /-- INC r8 (R198). -/
  | incR8 (r : R8)
  /-- JP (HL) (R313). -/
  | jpHL
  /-- JP cc,n16 (R314). -/
  | jpCC (cc : Cond) (a : Word)
  /-- JP n16 (R315). -/
  | jpN16 (a : Word)
  /-- JR cc,e8 (R316). -/
  | jrCC (cc : Cond) (e : Byte)
  /-- JR e8 (R317). -/
  | jrE8 (e : Byte)
  /-- LD (C),A (R142). -/
  | ldCA
  /-- LD (HL),n8 (R131). -/
  | ldHLN8 (n : Byte)
  /-- LD (HL),r8 (R132). -/
  | ldHLR8 (r : R8)
  /-- LD (n16),A (R133). -/
  | ldN16A (a : Word)
  /-- LD (n16),SP (R161). -/
  | ldN16SP (a : Word)
  /-- LD (r16),A (R134). -/
  | ldR16A (p : R16Mem)
  /-- LD A,(C) (R143). -/
  | ldAC
  /-- LD A,(n16) (R135). -/
  | ldAN16 (a : Word)
  /-- LD A,(r16) (R136). -/
  | ldAR16 (p : R16Mem)
  /-- LD HL,SP+e8 (R163). -/
  | ldHLSPE8 (e : Byte)
  /-- LD r16,n16 (R164). -/
  | ldR16N16 (p : R16) (n : Word)
  /-- LD r8,(HL) (R137). -/
  | ldR8HL (dst : R8)
  /-- LD r8,n8 (R138). -/
  | ldR8N8 (dst : R8) (n : Byte)
  /-- LD r8,r8 (R139). -/
  | ldR8R8 (dst r : R8)
  /-- LD SP,HL (R165). -/
  | ldSPHL
  /-- LDD (HL),A (R140). -/
  | lddHLA
  /-- LDD A,(HL) (R141). -/
  | lddAHL
  /-- LDH (n8),A (R144). -/
  | ldhN8A (n : Byte)
  /-- LDH A,(n8) (R145). -/
  | ldhAN8 (n : Byte)
  /-- LDI (HL),A (R146). -/
  | ldiHLA
  /-- LDI A,(HL) (R147). -/
  | ldiAHL
  /-- NOP (R345). -/
  | nop
  /-- OR (HL) (R200). -/
  | orHL
  /-- OR n8 (R201). -/
  | orN8 (n : Byte)
  /-- OR r8 (R202). -/
  | orR8 (r : R8)
  /-- POP r16 (R170). -/
  | popR16 (p : R16Stk)
  /-- PUSH r16 (R171). -/
  | pushR16 (p : R16Stk)
  /-- RES n3,(HL) (R283). -/
  | resHL (b : BitVec 3)
  /-- RES n3,r8 (R284). -/
  | resR8 (b : BitVec 3) (r : R8)
  /-- RET (R318). -/
  | ret
  /-- RET cc (R319). -/
  | retCC (cc : Cond)
  /-- RETI (R320). -/
  | reti
  /-- RL (HL) (R265). -/
  | rlHL
  /-- RL r8 (R266). -/
  | rlR8 (r : R8)
  /-- RLA (R262). -/
  | rla
  /-- RLC (HL) (R267). -/
  | rlcHL
  /-- RLC r8 (R268). -/
  | rlcR8 (r : R8)
  /-- RLCA (R261). -/
  | rlca
  /-- RR (HL) (R269). -/
  | rrHL
  /-- RR r8 (R270). -/
  | rrR8 (r : R8)
  /-- RRA (R264). -/
  | rra
  /-- RRC (HL) (R271). -/
  | rrcHL
  /-- RRC r8 (R272). -/
  | rrcR8 (r : R8)
  /-- RRCA (R263). -/
  | rrca
  /-- RST f (R326); f is one of $00, $08, .. $38 (checked in WellFormed). -/
  | rst (f : Byte)
  /-- SBC A,(HL) (R203). -/
  | sbcAHL
  /-- SBC A,n8 (R204). -/
  | sbcAN8 (n : Byte)
  /-- SBC A,r8 (R205). -/
  | sbcAR8 (r : R8)
  /-- SCF (R206). -/
  | scf
  /-- SET n3,(HL) (R285). -/
  | setHL (b : BitVec 3)
  /-- SET n3,r8 (R286). -/
  | setR8 (b : BitVec 3) (r : R8)
  /-- SLA (HL) (R273). -/
  | slaHL
  /-- SLA r8 (R274). -/
  | slaR8 (r : R8)
  /-- SRA (HL) (R275). -/
  | sraHL
  /-- SRA r8 (R276). -/
  | sraR8 (r : R8)
  /-- SRL (HL) (R277). -/
  | srlHL
  /-- SRL r8 (R278). -/
  | srlR8 (r : R8)
  /-- STOP (R346); n is the second byte, fetched and ignored (R113). -/
  | stop (n : Byte)
  /-- SUB (HL) (R207). -/
  | subHL
  /-- SUB n8 (R208). -/
  | subN8 (n : Byte)
  /-- SUB r8 (R209). -/
  | subR8 (r : R8)
  /-- SWAP (HL) (R279). -/
  | swapHL
  /-- SWAP r8 (R280). -/
  | swapR8 (r : R8)
  /-- XOR (HL) (R210). -/
  | xorHL
  /-- XOR n8 (R211). -/
  | xorN8 (n : Byte)
  /-- XOR r8 (R212). -/
  | xorR8 (r : R8)
  /-- The undefined opcode $D3 (R112, R360). -/
  | undefD3
  /-- The undefined opcode $DB (R112, R360). -/
  | undefDB
  /-- The undefined opcode $DD (R112, R360). -/
  | undefDD
  /-- The undefined opcode $E3 (R112, R360). -/
  | undefE3
  /-- The undefined opcode $E4 (R112, R360). -/
  | undefE4
  /-- The undefined opcode $EB (R112, R360). -/
  | undefEB
  /-- The undefined opcode $EC (R112, R360). -/
  | undefEC
  /-- The undefined opcode $ED (R112, R360). -/
  | undefED
  /-- The undefined opcode $F4 (R112, R360). -/
  | undefF4
  /-- The undefined opcode $FC (R112, R360). -/
  | undefFC
  /-- The undefined opcode $FD (R112, R360). -/
  | undefFD
deriving DecidableEq, Repr

end Sys2Proof
end

