-- ==== Sys2Proof/WellFormed.lean ====
section
/-!
DEFINITION. Which terms of `Instr` are instructions of the machine. The types already bound every operand but
one: the operand of RST must be one of its eight addresses (30_encoding.md R99, 45_control.md R326).
-/

namespace Sys2Proof

/-- RST's operand is one of $00, $08, $10, $18, $20, $28, $30, $38: bits 7, 6 and 2 to 0 are zero (R99, R326). -/
def rstTarget (f : Byte) : Bool := f &&& 0xC7 == 0

/-- The well-formed instructions. -/
def WellFormed : Instr → Bool
  | .rst f => rstTarget f
  | _ => true

end Sys2Proof
end

