-- ==== Sys2Proof/Decode.lean ====
section
/-!
DEFINITION. Decoding and encoding (30_encoding.md). `decodeBytes` is total on any three bytes: every value of byte 0
is an instruction, the prefix $CB or one of the 11 undefined opcodes (R106, R112), and every byte after $CB is an
instruction (R107). `decode` reads a list of bytes and refuses, by name, a list too short for its instruction.
-/

namespace Sys2Proof

/-! ### Operand fields (R91, R94 to R99) -/

/-- x: bits 7 6 (R91). -/
def fieldX (op : Byte) : BitVec 2 := op.extractLsb' 6 2

/-- y: bits 5 to 3 (R91). -/
def fieldY (op : Byte) : BitVec 3 := op.extractLsb' 3 3

/-- z: bits 2 to 0 (R91). -/
def fieldZ (op : Byte) : BitVec 3 := op.extractLsb' 0 3

/-- p: bits 5 4 (R91). -/
def fieldP (op : Byte) : BitVec 2 := op.extractLsb' 4 2

/-- The condition code: bits 4 3 (R91, R97). -/
def fieldC (op : Byte) : BitVec 2 := op.extractLsb' 3 2

/-- `r8(k)`; none is the code 110, the memory byte at HL (R94). -/
def r8OfCode (k : BitVec 3) : Option R8 :=
  match k.toNat with
  | 0 => some .b
  | 1 => some .c
  | 2 => some .d
  | 3 => some .e
  | 4 => some .h
  | 5 => some .l
  | 6 => none
  | _ => some .a

/-- `r16(k)` (R95). -/
def r16OfCode (k : BitVec 2) : R16 :=
  match k.toNat with
  | 0 => .bc
  | 1 => .de
  | 2 => .hl
  | _ => .sp

/-- `r16stk(k)` (R96). -/
def r16StkOfCode (k : BitVec 2) : R16Stk :=
  match k.toNat with
  | 0 => .bc
  | 1 => .de
  | 2 => .hl
  | _ => .af

/-- `cc(k)` (R97). -/
def condOfCode (k : BitVec 2) : Cond :=
  match k.toNat with
  | 0 => .nz
  | 1 => .z
  | 2 => .nc
  | _ => .c

/-! ### The two opcode tables -/

/-- Block x = 00 (R101). -/
def decodeX0 (op b1 : Byte) (n16 : Word) : Instr :=
  let y := fieldY op
  let p := r16OfCode (fieldP op)
  match (fieldZ op).toNat, y.toNat with
  | 0, 0 => .nop
  | 0, 1 => .ldN16SP n16
  | 0, 2 => .stop b1
  | 0, 3 => .jrE8 b1
  | 0, _ => .jrCC (condOfCode (fieldC op)) b1
  | 1, 0 => .ldR16N16 p n16
  | 1, 2 => .ldR16N16 p n16
  | 1, 4 => .ldR16N16 p n16
  | 1, 6 => .ldR16N16 p n16
  | 1, _ => .addHLR16 p
  | 2, 0 => .ldR16A .bc
  | 2, 1 => .ldAR16 .bc
  | 2, 2 => .ldR16A .de
  | 2, 3 => .ldAR16 .de
  | 2, 4 => .ldiHLA
  | 2, 5 => .ldiAHL
  | 2, 6 => .lddHLA
  | 2, _ => .lddAHL
  | 3, 0 => .incR16 p
  | 3, 2 => .incR16 p
  | 3, 4 => .incR16 p
  | 3, 6 => .incR16 p
  | 3, _ => .decR16 p
  | 4, _ => match r8OfCode y with
    | some r => .incR8 r
    | none => .incHL
  | 5, _ => match r8OfCode y with
    | some r => .decR8 r
    | none => .decHL
  | 6, _ => match r8OfCode y with
    | some r => .ldR8N8 r b1
    | none => .ldHLN8 b1
  | _, 0 => .rlca
  | _, 1 => .rrca
  | _, 2 => .rla
  | _, 3 => .rra
  | _, 4 => .daa
  | _, 5 => .cpl
  | _, 6 => .scf
  | _, _ => .ccf

/-- Block x = 01: the LD block, with HALT in the place of LD (HL),(HL) (R102). -/
def decodeX1 (op : Byte) : Instr :=
  match r8OfCode (fieldY op), r8OfCode (fieldZ op) with
  | some dst, some r => .ldR8R8 dst r
  | some dst, none => .ldR8HL dst
  | none, some r => .ldHLR8 r
  | none, none => .halt

/-- Block x = 10: operation y on A and r8(z) or (HL) (R103). -/
def decodeX2 (op : Byte) : Instr :=
  match (fieldY op).toNat, r8OfCode (fieldZ op) with
  | 0, some r => .addAR8 r
  | 0, none => .addAHL
  | 1, some r => .adcAR8 r
  | 1, none => .adcAHL
  | 2, some r => .subR8 r
  | 2, none => .subHL
  | 3, some r => .sbcAR8 r
  | 3, none => .sbcAHL
  | 4, some r => .andR8 r
  | 4, none => .andHL
  | 5, some r => .xorR8 r
  | 5, none => .xorHL
  | 6, some r => .orR8 r
  | 6, none => .orHL
  | _, some r => .cpR8 r
  | _, none => .cpHL

/-- The second table: the byte after $CB (R92, R105). -/
def decodeCB (op : Byte) : Instr :=
  let y := fieldY op
  match (fieldX op).toNat, y.toNat, r8OfCode (fieldZ op) with
  | 0, 0, some r => .rlcR8 r
  | 0, 0, none => .rlcHL
  | 0, 1, some r => .rrcR8 r
  | 0, 1, none => .rrcHL
  | 0, 2, some r => .rlR8 r
  | 0, 2, none => .rlHL
  | 0, 3, some r => .rrR8 r
  | 0, 3, none => .rrHL
  | 0, 4, some r => .slaR8 r
  | 0, 4, none => .slaHL
  | 0, 5, some r => .sraR8 r
  | 0, 5, none => .sraHL
  | 0, 6, some r => .swapR8 r
  | 0, 6, none => .swapHL
  | 0, _, some r => .srlR8 r
  | 0, _, none => .srlHL
  | 1, _, some r => .bitR8 y r
  | 1, _, none => .bitHL y
  | 2, _, some r => .resR8 y r
  | 2, _, none => .resHL y
  | _, _, some r => .setR8 y r
  | _, _, none => .setHL y

/-- Block x = 11 (R104), with the n8 forms of the operations of R103 and the undefined opcodes of R112. -/
def decodeX3 (op b1 : Byte) (n16 : Word) : Instr :=
  let y := fieldY op
  let p := r16StkOfCode (fieldP op)
  let cc := condOfCode (fieldC op)
  match (fieldZ op).toNat, y.toNat with
  | 0, 4 => .ldhN8A b1
  | 0, 5 => .addSPE8 b1
  | 0, 6 => .ldhAN8 b1
  | 0, 7 => .ldHLSPE8 b1
  | 0, _ => .retCC cc
  | 1, 1 => .ret
  | 1, 3 => .reti
  | 1, 5 => .jpHL
  | 1, 7 => .ldSPHL
  | 1, _ => .popR16 p
  | 2, 4 => .ldCA
  | 2, 5 => .ldN16A n16
  | 2, 6 => .ldAC
  | 2, 7 => .ldAN16 n16
  | 2, _ => .jpCC cc n16
  | 3, 0 => .jpN16 n16
  | 3, 1 => decodeCB b1
  | 3, 2 => .undefD3
  | 3, 3 => .undefDB
  | 3, 4 => .undefE3
  | 3, 5 => .undefEB
  | 3, 6 => .di
  | 3, _ => .ei
  | 4, 4 => .undefE4
  | 4, 5 => .undefEC
  | 4, 6 => .undefF4
  | 4, 7 => .undefFC
  | 4, _ => .callCC cc n16
  | 5, 1 => .callN16 n16
  | 5, 3 => .undefDD
  | 5, 5 => .undefED
  | 5, 7 => .undefFD
  | 5, _ => .pushR16 p
  | 6, 0 => .addAN8 b1
  | 6, 1 => .adcAN8 b1
  | 6, 2 => .subN8 b1
  | 6, 3 => .sbcAN8 b1
  | 6, 4 => .andN8 b1
  | 6, 5 => .xorN8 b1
  | 6, 6 => .orN8 b1
  | 6, _ => .cpN8 b1
  | _, _ => .rst (op &&& 0x38)

/-- The instruction that starts with the bytes b0, b1, b2; the bytes it does not need are not looked at (R90, R91,
R106, R107). `n16` is byte 2 : byte 1, low byte first (R56, R100). -/
def decodeBytes (b0 b1 b2 : Byte) : Instr :=
  match (fieldX b0).toNat with
  | 0 => decodeX0 b0 b1 (pair16 b2 b1)
  | 1 => decodeX1 b0
  | 2 => decodeX2 b0
  | _ => decodeX3 b0 b1 (pair16 b2 b1)

/-- The size of an instruction in bytes (R115). -/
def Instr.size : Instr → Nat
  | .adcAHL => 1
  | .adcAN8 _ => 2
  | .adcAR8 _ => 1
  | .addAHL => 1
  | .addAN8 _ => 2
  | .addAR8 _ => 1
  | .addHLR16 _ => 1
  | .addSPE8 _ => 2
  | .andHL => 1
  | .andN8 _ => 2
  | .andR8 _ => 1
  | .bitHL _ => 2
  | .bitR8 _ _ => 2
  | .callCC _ _ => 3
  | .callN16 _ => 3
  | .ccf => 1
  | .cpHL => 1
  | .cpN8 _ => 2
  | .cpR8 _ => 1
  | .cpl => 1
  | .daa => 1
  | .decHL => 1
  | .decR16 _ => 1
  | .decR8 _ => 1
  | .di => 1
  | .ei => 1
  | .halt => 1
  | .incHL => 1
  | .incR16 _ => 1
  | .incR8 _ => 1
  | .jpHL => 1
  | .jpCC _ _ => 3
  | .jpN16 _ => 3
  | .jrCC _ _ => 2
  | .jrE8 _ => 2
  | .ldCA => 1
  | .ldHLN8 _ => 2
  | .ldHLR8 _ => 1
  | .ldN16A _ => 3
  | .ldN16SP _ => 3
  | .ldR16A _ => 1
  | .ldAC => 1
  | .ldAN16 _ => 3
  | .ldAR16 _ => 1
  | .ldHLSPE8 _ => 2
  | .ldR16N16 _ _ => 3
  | .ldR8HL _ => 1
  | .ldR8N8 _ _ => 2
  | .ldR8R8 _ _ => 1
  | .ldSPHL => 1
  | .lddHLA => 1
  | .lddAHL => 1
  | .ldhN8A _ => 2
  | .ldhAN8 _ => 2
  | .ldiHLA => 1
  | .ldiAHL => 1
  | .nop => 1
  | .orHL => 1
  | .orN8 _ => 2
  | .orR8 _ => 1
  | .popR16 _ => 1
  | .pushR16 _ => 1
  | .resHL _ => 2
  | .resR8 _ _ => 2
  | .ret => 1
  | .retCC _ => 1
  | .reti => 1
  | .rlHL => 2
  | .rlR8 _ => 2
  | .rla => 1
  | .rlcHL => 2
  | .rlcR8 _ => 2
  | .rlca => 1
  | .rrHL => 2
  | .rrR8 _ => 2
  | .rra => 1
  | .rrcHL => 2
  | .rrcR8 _ => 2
  | .rrca => 1
  | .rst _ => 1
  | .sbcAHL => 1
  | .sbcAN8 _ => 2
  | .sbcAR8 _ => 1
  | .scf => 1
  | .setHL _ => 2
  | .setR8 _ _ => 2
  | .slaHL => 2
  | .slaR8 _ => 2
  | .sraHL => 2
  | .sraR8 _ => 2
  | .srlHL => 2
  | .srlR8 _ => 2
  | .stop _ => 2
  | .subHL => 1
  | .subN8 _ => 2
  | .subR8 _ => 1
  | .swapHL => 2
  | .swapR8 _ => 2
  | .xorHL => 1
  | .xorN8 _ => 2
  | .xorR8 _ => 1
  | .undefD3 => 1
  | .undefDB => 1
  | .undefDD => 1
  | .undefE3 => 1
  | .undefE4 => 1
  | .undefEB => 1
  | .undefEC => 1
  | .undefED => 1
  | .undefF4 => 1
  | .undefFC => 1
  | .undefFD => 1

/-- The length of the instruction that starts with byte b0: the first byte alone decides it (R90). -/
def instrSize (b0 : Byte) : Nat := (decodeBytes b0 0 0).size

/-- Why a list of bytes is no instruction. -/
inductive DecodeError where
  /-- There is no byte. -/
  | empty
  /-- The list ends before the last byte of the instruction that the byte starts. -/
  | truncated (b0 : Byte)
deriving DecidableEq, Repr

/-- Decode the first instruction of a list of bytes and return the bytes after it (R90). -/
def decode : List Byte → Except DecodeError (Instr × List Byte)
  | [] => .error .empty
  | b0 :: rest =>
    if rest.length + 1 < instrSize b0 then .error (.truncated b0)
    else .ok (decodeBytes b0 (rest.getD 0 0) (rest.getD 1 0), rest.drop (instrSize b0 - 1))

/-- The instruction a table word spells (the host's numbering). A word of 16 bits whose high byte is $CB is a row of
the second table, which opcode_table.json numbers as byte 0 x 256 + byte 1 (R123; log 24); any other word has its
first byte in bits 7 to 0. Bytes beyond `nbits` are 0. -/
def tableBytes (nbits w : Nat) : Byte × Byte × Byte :=
  let v := w % 2 ^ nbits
  if nbits = 16 ∧ v / 256 = 0xCB then (0xCB, BitVec.ofNat 8 v, 0)
  else (BitVec.ofNat 8 v, BitVec.ofNat 8 (v / 256), BitVec.ofNat 8 (v / 65536))

/-- The instruction the decoder reads from a table word. -/
def decodeTableWord (nbits w : Nat) : Option Instr :=
  let b := tableBytes nbits w
  match decode [b.1, b.2.1, b.2.2] with
  | .ok (i, _) => some i
  | .error _ => none

/-! ### The encoder (R94 to R100, R119) -/

/-- The code of a register (R94). -/
def R8.code : R8 → Byte
  | .b => 0
  | .c => 1
  | .d => 2
  | .e => 3
  | .h => 4
  | .l => 5
  | .a => 7

/-- The code of a pair (R95). -/
def R16.code : R16 → Byte
  | .bc => 0
  | .de => 1
  | .hl => 2
  | .sp => 3

/-- The code of a PUSH or POP pair (R96). -/
def R16Stk.code : R16Stk → Byte
  | .bc => 0
  | .de => 1
  | .hl => 2
  | .af => 3

/-- The code of an addressing pair (R98). -/
def R16Mem.code : R16Mem → Byte
  | .bc => 0
  | .de => 1

/-- The code of a condition (R97). -/
def Cond.code : Cond → Byte
  | .nz => 0
  | .z => 1
  | .nc => 2
  | .c => 3

/-- A bit number as a field of the opcode (R99). -/
def bitCode (b : BitVec 3) : Byte := b.setWidth 8

/-- The bytes of an instruction, as R119 spells its row; `n16` low byte first (R56). -/
def encode : Instr → List Byte
  | .adcAHL => [0x8E]
  | .adcAN8 n => [0xCE, n]
  | .adcAR8 r => [0x88 ||| r.code]
  | .addAHL => [0x86]
  | .addAN8 n => [0xC6, n]
  | .addAR8 r => [0x80 ||| r.code]
  | .addHLR16 p => [0x09 ||| (p.code <<< 4)]
  | .addSPE8 e => [0xE8, e]
  | .andHL => [0xA6]
  | .andN8 n => [0xE6, n]
  | .andR8 r => [0xA0 ||| r.code]
  | .bitHL b => [0xCB, 0x46 ||| (bitCode b <<< 3)]
  | .bitR8 b r => [0xCB, 0x40 ||| r.code ||| (bitCode b <<< 3)]
  | .callCC cc a => [0xC4 ||| (cc.code <<< 3), lo8 a, hi8 a]
  | .callN16 a => [0xCD, lo8 a, hi8 a]
  | .ccf => [0x3F]
  | .cpHL => [0xBE]
  | .cpN8 n => [0xFE, n]
  | .cpR8 r => [0xB8 ||| r.code]
  | .cpl => [0x2F]
  | .daa => [0x27]
  | .decHL => [0x35]
  | .decR16 p => [0x0B ||| (p.code <<< 4)]
  | .decR8 r => [0x05 ||| (r.code <<< 3)]
  | .di => [0xF3]
  | .ei => [0xFB]
  | .halt => [0x76]
  | .incHL => [0x34]
  | .incR16 p => [0x03 ||| (p.code <<< 4)]
  | .incR8 r => [0x04 ||| (r.code <<< 3)]
  | .jpHL => [0xE9]
  | .jpCC cc a => [0xC2 ||| (cc.code <<< 3), lo8 a, hi8 a]
  | .jpN16 a => [0xC3, lo8 a, hi8 a]
  | .jrCC cc e => [0x20 ||| (cc.code <<< 3), e]
  | .jrE8 e => [0x18, e]
  | .ldCA => [0xE2]
  | .ldHLN8 n => [0x36, n]
  | .ldHLR8 r => [0x70 ||| r.code]
  | .ldN16A a => [0xEA, lo8 a, hi8 a]
  | .ldN16SP a => [0x08, lo8 a, hi8 a]
  | .ldR16A p => [0x02 ||| (p.code <<< 4)]
  | .ldAC => [0xF2]
  | .ldAN16 a => [0xFA, lo8 a, hi8 a]
  | .ldAR16 p => [0x0A ||| (p.code <<< 4)]
  | .ldHLSPE8 e => [0xF8, e]
  | .ldR16N16 p n => [0x01 ||| (p.code <<< 4), lo8 n, hi8 n]
  | .ldR8HL dst => [0x46 ||| (dst.code <<< 3)]
  | .ldR8N8 dst n => [0x06 ||| (dst.code <<< 3), n]
  | .ldR8R8 dst r => [0x40 ||| (dst.code <<< 3) ||| r.code]
  | .ldSPHL => [0xF9]
  | .lddHLA => [0x32]
  | .lddAHL => [0x3A]
  | .ldhN8A n => [0xE0, n]
  | .ldhAN8 n => [0xF0, n]
  | .ldiHLA => [0x22]
  | .ldiAHL => [0x2A]
  | .nop => [0x00]
  | .orHL => [0xB6]
  | .orN8 n => [0xF6, n]
  | .orR8 r => [0xB0 ||| r.code]
  | .popR16 p => [0xC1 ||| (p.code <<< 4)]
  | .pushR16 p => [0xC5 ||| (p.code <<< 4)]
  | .resHL b => [0xCB, 0x86 ||| (bitCode b <<< 3)]
  | .resR8 b r => [0xCB, 0x80 ||| r.code ||| (bitCode b <<< 3)]
  | .ret => [0xC9]
  | .retCC cc => [0xC0 ||| (cc.code <<< 3)]
  | .reti => [0xD9]
  | .rlHL => [0xCB, 0x16]
  | .rlR8 r => [0xCB, 0x10 ||| r.code]
  | .rla => [0x17]
  | .rlcHL => [0xCB, 0x06]
  | .rlcR8 r => [0xCB, 0x00 ||| r.code]
  | .rlca => [0x07]
  | .rrHL => [0xCB, 0x1E]
  | .rrR8 r => [0xCB, 0x18 ||| r.code]
  | .rra => [0x1F]
  | .rrcHL => [0xCB, 0x0E]
  | .rrcR8 r => [0xCB, 0x08 ||| r.code]
  | .rrca => [0x0F]
  | .rst f => [0xC7 ||| f]
  | .sbcAHL => [0x9E]
  | .sbcAN8 n => [0xDE, n]
  | .sbcAR8 r => [0x98 ||| r.code]
  | .scf => [0x37]
  | .setHL b => [0xCB, 0xC6 ||| (bitCode b <<< 3)]
  | .setR8 b r => [0xCB, 0xC0 ||| r.code ||| (bitCode b <<< 3)]
  | .slaHL => [0xCB, 0x26]
  | .slaR8 r => [0xCB, 0x20 ||| r.code]
  | .sraHL => [0xCB, 0x2E]
  | .sraR8 r => [0xCB, 0x28 ||| r.code]
  | .srlHL => [0xCB, 0x3E]
  | .srlR8 r => [0xCB, 0x38 ||| r.code]
  | .stop n => [0x10, n]
  | .subHL => [0x96]
  | .subN8 n => [0xD6, n]
  | .subR8 r => [0x90 ||| r.code]
  | .swapHL => [0xCB, 0x36]
  | .swapR8 r => [0xCB, 0x30 ||| r.code]
  | .xorHL => [0xAE]
  | .xorN8 n => [0xEE, n]
  | .xorR8 r => [0xA8 ||| r.code]
  | .undefD3 => [0xD3]
  | .undefDB => [0xDB]
  | .undefDD => [0xDD]
  | .undefE3 => [0xE3]
  | .undefE4 => [0xE4]
  | .undefEB => [0xEB]
  | .undefEC => [0xEC]
  | .undefED => [0xED]
  | .undefF4 => [0xF4]
  | .undefFC => [0xFC]
  | .undefFD => [0xFD]

end Sys2Proof
end

