-- ==== Sys2Proof/Machine/Update.lean ====
section
/-!
DEFINITION. The named updates of the state. Sys2Proof/Laws/State.lean says what each leaves and changes.
-/

namespace Sys2Proof.Machine

/-- Write the register file (R20). -/
def State.setRegs (s : State) (r : Regs) : State := { s with regs := r }

/-- Write A (R21). -/
def State.setA (s : State) (v : Byte) : State := s.setRegs { s.regs with a := v }

/-- Write the four flags (R26). -/
def State.setFlags (s : State) (f : Flags) : State := s.setRegs { s.regs with f := f }

/-- Write SP (R24). -/
def State.setSp (s : State) (v : Word) : State := s.setRegs { s.regs with sp := v }

/-- Write PC (R25). -/
def State.setPc (s : State) (v : Word) : State := s.setRegs { s.regs with pc := v }

/-- Write the memory (R71). -/
def State.setMem (s : State) (m : Memory) : State := { s with mem := m }

/-- Write the mode (R33). -/
def State.setMode (s : State) (m : Mode) : State := { s with mode := m }

/-- Write IME and ei_delay (R31, R32). -/
def State.setIme (s : State) (ime eiDelay : Bool) : State := { s with ime := ime, eiDelay := eiDelay }

/-- Write IF (R361). -/
def State.setIf (s : State) (v : BitVec 5) : State := { s with ifReg := v }

/-- Write IE (R362). -/
def State.setIe (s : State) (v : Byte) : State := { s with ie := v }

/-- Write the two bits of KEY1 (R400). -/
def State.setKey1 (s : State) (k : Key1) : State := { s with key1 := k }

/-- Write the registers of the cartridge's controller (R64). -/
def State.setCart (s : State) (c : CartRegs) : State := { s with cart := c }

/-- Write VBK (R398). -/
def State.setVbk (s : State) (v : BitVec 1) : State := { s with vbk := v }

/-- Write SVBK (R398). -/
def State.setSvbk (s : State) (v : BitVec 3) : State := { s with svbk := v }

/-- A GDMA or HDMA takes or leaves VRAM (R397). -/
def State.setVramDma (s : State) (v : Bool) : State := { s with vramDma := v }

/-- Record a device write (R71). -/
def State.logWrite (s : State) (a : Word) (v : Byte) : State := { s with devLog := (a.toNat, v) :: s.devLog }

/-- An OAM DMA starts or ends (R396). -/
def State.setOamDma (s : State) (v : Bool) : State := { s with oamDma := v }

/-- The LCD controller enters a mode (R385). -/
def State.setLcdMode (s : State) (m : BitVec 2) : State := { s with lcdMode := m }

/-- What the devices do before the coming steps (R364). -/
def State.setInbox (s : State) (q : List (List DevEvent)) : State := { s with inbox := q }

/-- One more free byte has been drawn (log 7). -/
def State.countQuery (s : State) : State := { s with queries := s.queries + 1 }

/-- `n` machine cycles pass: the counter advances, and nothing else (R460). -/
def State.tick (s : State) (n : Nat) : State := { s with clk := s.clk + n }

/-- Write the out-of-spec marker (R52, log 15). -/
def State.setOutOfSpec (s : State) (v : Bool) : State := { s with outOfSpec := v }

end Sys2Proof.Machine
end

