-- ==== Sys2Proof/Machine/Cartridge.lean ====
section
/-!
DEFINITION. The cartridge: the identification tables of its header (20_memory.md R69), what its controller shows at
$4000 to $7FFF and $A000 to $BFFF (R62, R65, R67), and the commands it takes (R64, R65, R67).
-/

namespace Sys2Proof.Machine

/-! ### The header's tables (R69) -/

/-- The controller of a type code ($0147), for the types the spec gives a controller's registers for; none is a type
that is refused at configuration (R68, U12; log 19). -/
def controllerOfType (code : Byte) : Option Controller :=
  if code = 0x00 then some .none
  else if 0x0F ≤ code.toNat ∧ code.toNat ≤ 0x13 then some .mbc3
  else if code = 0x19 ∨ code = 0x1A ∨ code = 0x1B ∨ code = 0x1D ∨ code = 0x1E then some .mbc5
  else none

/-- The RAM size in bytes of a size code ($0149) (R69). -/
def ramBytesOfCode (code : Byte) : Option Nat :=
  match code.toNat with
  | 0x00 => some 0
  | 0x01 => some 2048
  | 0x02 => some 8192
  | 0x03 => some 32768
  | 0x06 => some 131072
  | _ => none

/-- The number of 16 KiB ROM banks of a size code ($0148) (R69). -/
def romBanksOfCode (code : Byte) : Option Nat :=
  match code.toNat with
  | 0x00 => some 2
  | 0x01 => some 4
  | 0x02 => some 8
  | 0x03 => some 16
  | 0x04 => some 32
  | 0x05 => some 64
  | 0x06 => some 128
  | 0x07 => some 256
  | 0x08 => some 512
  | 0x52 => some 72
  | 0x53 => some 80
  | 0x54 => some 96
  | _ => none

/-- The cartridge that the three codes of a header describe (R9, R69). DESIGN CHOICE (log 33): the RAM size code alone
says how much RAM there is, also where the type's column RAM says otherwise. -/
def cartridgeOfCodes (type romSize ramSize : Byte) : Option Cartridge := do
  let controller ← controllerOfType type
  let romBanks ← romBanksOfCode romSize
  let ramBytes ← ramBytesOfCode ramSize
  return {
    controller := controller
    romBanks := romBanks
    ramBytes := ramBytes
    timer := type == 0x0F || type == 0x10
    rumble := type == 0x1D || type == 0x1E }

/-! ### The banks (R62, R65, R67) -/

/-- The ROM bank number written: an MBC5 has the 9-bit value ROMB1[0] : ROMB0[7:0] (R65, R67). -/
def romBankNumber (s : State) : Nat :=
  match s.cfg.cartridge.controller with
  | .none => 1
  | .mbc3 => s.cart.romb0.toNat
  | .mbc5 => s.cart.romb1.toNat * 256 + s.cart.romb0.toNat

/-- Whether a ROM bank number is one the spec lists: not 0, within the cartridge's size, and for an MBC3 at most $7F
(R65, R68). -/
def romBankListed (s : State) (n : Nat) : Bool :=
  match s.cfg.cartridge.controller with
  | .none => true
  | .mbc3 => 1 ≤ n && n ≤ 0x7F && n < s.cfg.cartridge.romBanks
  | .mbc5 => 1 ≤ n && n < s.cfg.cartridge.romBanks

/-- The ROM bank that $4000 to $7FFF shows (R62); for a number the spec does not list, a free one (R68; log 16). -/
def romBank (s : State) : Nat :=
  let n := romBankNumber s
  if romBankListed s n then n
  else Config.romBankShown s.cfg.cartridge.controller n % s.cfg.cartridge.romBanks

/-- Cartridge RAM and clock are enabled by $0A in RAMG (R65, R67; log 17). -/
def cartRamEnabled (s : State) : Bool := s.cart.ramg == 0x0A

/-- What $A000 to $BFFF shows. -/
inductive CartWindow where
  /-- A byte of cartridge RAM, counted over all its banks. -/
  | ram (offset : Nat)
  /-- The selected clock register (R65). -/
  | clock (r : ClockReg)
  /-- Nothing: RAM absent or disabled (R68, R70). -/
  | absent
deriving DecidableEq, Repr

/-- How many 8 KiB banks the cartridge's RAM has (R62). -/
def ramBanks (s : State) : Nat := (s.cfg.cartridge.ramBytes + 8191) / 8192

/-- The RAM bank shown for a bank number: the number itself within the RAM's size, else a free one (U11; log 16). -/
def ramBank (s : State) (bank : Nat) : Nat :=
  if bank < ramBanks s then bank
  else Config.ramBankShown s.cfg.cartridge.controller bank % (ramBanks s + 1)

/-- A byte of a RAM bank: 8 KiB a bank, nothing beyond the RAM's size (R62; log 31). -/
def ramWindow (s : State) (bank : Nat) (a : Word) : CartWindow :=
  let offset := ramBank s bank * 8192 + (a.toNat - 0xA000)
  if offset < s.cfg.cartridge.ramBytes then .ram offset else .absent

/-- A clock register, where the cartridge has a clock (R65, R69). -/
def clockWindow (s : State) (r : ClockReg) : CartWindow :=
  if s.cfg.cartridge.timer then .clock r else .absent

/-- The MBC3's window: $00 to $03 a RAM bank, $08 to $0C a clock register (R65 Note 1); any other value a free one of
these (U11; log 16). -/
def mbc3Window (s : State) (a : Word) : CartWindow :=
  let n := s.cart.ramb.toNat
  let sel := if n ≤ 3 then n else if 8 ≤ n ∧ n ≤ 0xC then n - 4 else Config.mbc3Selected n % 10
  match sel with
  | 4 => clockWindow s .sec
  | 5 => clockWindow s .min
  | 6 => clockWindow s .hrs
  | 7 => clockWindow s .dayl
  | 8 => clockWindow s .dayh
  | 9 => .absent
  | bank => ramWindow s bank a

/-- The MBC5's RAM bank number: RAMB bits 3 to 0, or bits 1 to 0 with a Rumble Pak (R67). -/
def mbc5RamBank (s : State) : Nat :=
  if s.cfg.cartridge.rumble then (s.cart.ramb &&& 0x03).toNat else (s.cart.ramb &&& 0x0F).toNat

/-- The Rumble Pak's motor: RAMB bit 3 (R67 Note 1). -/
def motorOn (s : State) : Bool := s.cfg.cartridge.rumble && s.cart.ramb.getLsbD 3

/-- What an address in $A000 to $BFFF shows (R62, R65, R67, R68). -/
def cartWindow (s : State) (a : Word) : CartWindow :=
  match s.cfg.cartridge.controller with
  | .none => .absent
  | .mbc3 => if cartRamEnabled s then mbc3Window s a else .absent
  | .mbc5 => if cartRamEnabled s then ramWindow s (mbc5RamBank s) a else .absent

/-! ### The clock (R65) -/

/-- A clock register's value. -/
def Clock.get (k : Clock) : ClockReg → Byte
  | .sec => k.sec
  | .min => k.min
  | .hrs => k.hrs
  | .dayl => k.dayl
  | .dayh => k.dayh

/-- A clock with one register written. -/
def Clock.set (k : Clock) (r : ClockReg) (v : Byte) : Clock :=
  match r with
  | .sec => { k with sec := v }
  | .min => { k with min := v }
  | .hrs => { k with hrs := v }
  | .dayl => { k with dayl := v }
  | .dayh => { k with dayh := v }

/-- Whether the clock counts: DAYH bit 6, "Start/Stop Clock Counter" (R65), stops it when set. PRESUMED (log 18): which
of the two values stops it. -/
def Clock.stopped (k : Clock) : Bool := k.dayh.getLsbD 6

/-- The clock itself changes a live register, unless it is stopped. Of DAYH it counts bit 0 and the carry bit 7, and
"Bit 7 of clock register DAYH remains set until zero is written to it" (R65 Note 3); the other bits stay. -/
def Clock.advance (k : Clock) (r : ClockReg) (v : Byte) : Clock :=
  if k.stopped then k
  else match r with
    | .dayh => k.set .dayh ((v &&& 0x81) ||| (k.dayh &&& 0xFE))
    | r => k.set r v

/-! ### Commands (R64, R65, R67) -/

/-- A write to an MBC3's clock latch: $00 and then $01 latches the clock data (R65 Note 2; log 18). -/
def latchClock (k : CartRegs) (v : Byte) : CartRegs :=
  if v = 0 then { k with latchArmed := true }
  else if v = 1 ∧ k.latchArmed then { k with latchArmed := false, latched := k.live }
  else { k with latchArmed := false }

/-- A write to $0000 to $7FFF as an MBC3 takes it (R65). -/
def mbc3Command (k : CartRegs) (a : Word) (v : Byte) : CartRegs :=
  if a.toNat < 0x2000 then { k with ramg := v }
  else if a.toNat < 0x4000 then { k with romb0 := v }
  else if a.toNat < 0x6000 then { k with ramb := v }
  else latchClock k v

/-- A write to $0000 to $7FFF as an MBC5 takes it (R67); $6000 to $7FFF holds no register of it. -/
def mbc5Command (k : CartRegs) (a : Word) (v : Byte) : CartRegs :=
  if a.toNat < 0x2000 then { k with ramg := v }
  else if a.toNat < 0x3000 then { k with romb0 := v }
  else if a.toNat < 0x4000 then { k with romb1 := v.setWidth 1 }
  else if a.toNat < 0x6000 then { k with ramb := v }
  else k

/-- A write to $0000 to $7FFF: no memory changes, the controller takes a command (R64, R71); without a controller
it is ignored (R68). -/
def cartCommand (s : State) (a : Word) (v : Byte) : State :=
  match s.cfg.cartridge.controller with
  | .none => s
  | .mbc3 => s.setCart (mbc3Command s.cart a v)
  | .mbc5 => s.setCart (mbc5Command s.cart a v)

end Sys2Proof.Machine
end

