-- ==== Sys2Proof/Machine/IoMap.lean ====
section
/-!
DEFINITION. The I/O register map (60_exceptions.md R380 to R401): name, address, whether it exists on CGB only, and
every field the source gives with its access right. The registers are device state behind `DeviceOracle` (R380), so
the fields are data here; the addresses and the CGB-only mark decide what Machine/Bus.lean does.
-/

namespace Sys2Proof.Machine

/-- Access right of a field (R380). -/
inductive Access where
  | r | w | rw
deriving DecidableEq, Repr

/-- A field of a register: its bits and its name (R380). -/
structure IoField where
  hi : Nat
  lo : Nat
  access : Access
  name : String
deriving DecidableEq, Repr

/-- The registers of R401, in address order; `waveRam i` is byte i of AUD3WAVERAM. -/
inductive IoReg where
  | p1 | sb | sc | div | tima | tma | tac | ifReg | nr10 | nr11
  | nr12 | nr13 | nr14 | nr21 | nr22 | nr23 | nr24 | nr30 | nr31 | nr32
  | nr33 | nr34 | nr41 | nr42 | nr43 | nr44 | nr50 | nr51 | nr52 | lcdc
  | stat | scy | scx | ly | lyc | dma | bgp | obp0 | obp1 | wy
  | wx | key1 | vbk | hdma1 | hdma2 | hdma3 | hdma4 | hdma5 | rp | bcps
  | bcpd | ocps | ocpd | svbk | ieReg
  | waveRam (i : BitVec 4)
deriving DecidableEq, Repr

/-- A row of the map. -/
structure IoRow where
  addr : Nat
  reg : IoReg
  gbcOnly : Bool
  fields : List IoField
deriving DecidableEq, Repr

/-- A row's field. -/
def ioField (hi lo : Nat) (access : Access) (name : String) : IoField :=
  { hi := hi, lo := lo, access := access, name := name }

/-- A row of a register of one whole byte. -/
def ioByte (addr : Nat) (reg : IoReg) (gbcOnly : Bool) (access : Access) (name : String) : IoRow :=
  { addr := addr, reg := reg, gbcOnly := gbcOnly, fields := [ioField 7 0 access name] }

/-- A row of a register with fields. -/
def ioBits (addr : Nat) (reg : IoReg) (gbcOnly : Bool) (fields : List IoField) : IoRow :=
  { addr := addr, reg := reg, gbcOnly := gbcOnly, fields := fields }

/-- Rows of joypad, serial, timer, IF, IE and the speed and bank selects (R361, R362, R381 to R383, R398, R400). -/
def ioRowsSystem : List IoRow :=
  [ ioBits 0xFF00 .p1 false
      [ioField 5 5 .w "P15", ioField 4 4 .w "P14", ioField 3 3 .r "P13", ioField 2 2 .r "P12",
        ioField 1 1 .r "P11", ioField 0 0 .r "P10"]
  , ioByte 0xFF01 .sb false .rw "Serial Transfer Data"
  , ioByte 0xFF02 .sc false .rw "Serial I/O Control"
  , ioByte 0xFF04 .div false .rw "Timer Divider"
  , ioByte 0xFF05 .tima false .rw "Timer Counter"
  , ioByte 0xFF06 .tma false .rw "Timer Modulo"
  , ioBits 0xFF07 .tac false
      [ioField 2 2 .rw "Timer start/stop", ioField 1 0 .rw "Timer speed"]
  , ioBits 0xFF0F .ifReg false
      [ioField 4 4 .rw "Joypad", ioField 3 3 .rw "Serial", ioField 2 2 .rw "Timer",
        ioField 1 1 .rw "LCD", ioField 0 0 .rw "VBlank"]
  , ioBits 0xFF4D .key1 true
      [ioField 7 7 .r "current speed", ioField 0 0 .rw "prepare speed switch"]
  , ioBits 0xFF4F .vbk true
      [ioField 0 0 .rw "VRAM Bank Select"]
  , ioBits 0xFF70 .svbk true
      [ioField 2 0 .rw "RAM Bank Select"]
  , ioBits 0xFFFF .ieReg false
      [ioField 4 4 .rw "HIL0 Transition", ioField 3 3 .rw "Serial I/O Transfer Done",
        ioField 2 2 .rw "Timer Overflow", ioField 1 1 .rw "LCDC", ioField 0 0 .rw "VBL"] ]

/-- Rows of the sound channels and their control (R388 to R392). -/
def ioRowsSound : List IoRow :=
  [ ioBits 0xFF10 .nr10 false
      [ioField 6 4 .rw "Sweep time", ioField 3 3 .rw "Sweep increase/decrease",
        ioField 2 0 .rw "Sweep shift"]
  , ioBits 0xFF11 .nr11 false
      [ioField 7 6 .rw "Wave pattern duty", ioField 5 0 .rw "Sound length data"]
  , ioBits 0xFF12 .nr12 false
      [ioField 7 4 .rw "Initial value of envelope", ioField 3 3 .rw "Envelope Up/Down",
        ioField 2 0 .rw "Number of envelope sweep"]
  , ioByte 0xFF13 .nr13 false .w "Frequency LSB"
  , ioBits 0xFF14 .nr14 false
      [ioField 7 7 .w "Initialise", ioField 6 6 .w "Counter/consecutive",
        ioField 2 0 .w "Frequency significant 3"]
  , ioBits 0xFF16 .nr21 false
      [ioField 7 6 .rw "Wave pattern duty", ioField 5 0 .rw "Sound length data"]
  , ioBits 0xFF17 .nr22 false
      [ioField 7 4 .rw "Initial value of envelope", ioField 3 3 .rw "Envelope Up/Down",
        ioField 2 0 .rw "Number of envelope sweep"]
  , ioByte 0xFF18 .nr23 false .w "Frequency LSB"
  , ioBits 0xFF19 .nr24 false
      [ioField 7 7 .w "Initialise", ioField 6 6 .w "Counter/consecutive",
        ioField 2 0 .w "Frequency significant 3"]
  , ioBits 0xFF1A .nr30 false
      [ioField 7 7 .rw "Sound On/Off"]
  , ioByte 0xFF1B .nr31 false .rw "Sound length"
  , ioBits 0xFF1C .nr32 false
      [ioField 6 5 .rw "Select output level"]
  , ioByte 0xFF1D .nr33 false .w "Frequency LSB"
  , ioBits 0xFF1E .nr34 false
      [ioField 7 7 .w "Initialise", ioField 6 6 .w "Counter/consecutive",
        ioField 2 0 .w "Frequency significant 3"]
  , ioBits 0xFF20 .nr41 false
      [ioField 5 0 .rw "Sound length"]
  , ioBits 0xFF21 .nr42 false
      [ioField 7 4 .rw "Initial value of envelope", ioField 3 3 .rw "Envelope Up/Down",
        ioField 2 0 .rw "Number of envelope sweep"]
  , ioBits 0xFF22 .nr43 false
      [ioField 7 4 .rw "Clock freq of polynomial", ioField 3 3 .rw "Selection of polynomial",
        ioField 2 0 .rw "Selection of dividing ratio"]
  , ioBits 0xFF23 .nr44 false
      [ioField 7 7 .rw "Initialise audio", ioField 6 6 .rw "Counter/consecutive"]
  , ioBits 0xFF24 .nr50 false
      [ioField 7 7 .rw "Vin to SO2 On/Off", ioField 6 4 .rw "SO2 output volume",
        ioField 3 3 .rw "Vin to SO1 On/Off", ioField 2 0 .rw "SO1 output volume"]
  , ioBits 0xFF25 .nr51 false
      [ioField 7 7 .rw "Output sound 4 to SO2", ioField 6 6 .rw "Output sound 3 to SO2",
        ioField 5 5 .rw "Output sound 2 to SO2", ioField 4 4 .rw "Output sound 1 to SO2",
        ioField 3 3 .rw "Output sound 4 to SO1", ioField 2 2 .rw "Output sound 3 to SO1",
        ioField 1 1 .rw "Output sound 2 to SO1", ioField 0 0 .rw "Output sound 1 to SO1"]
  , ioBits 0xFF26 .nr52 false
      [ioField 7 7 .rw "All Channels On/Off", ioField 3 3 .rw "Channel 4 On/Off",
        ioField 2 2 .rw "Channel 3 On/Off", ioField 1 1 .rw "Channel 2 On/Off",
        ioField 0 0 .rw "Channel 1 On/Off"] ]

/-- Rows of the LCD controller, DMA, infrared and the CGB palettes (R384 to R387, R396, R397, R399). -/
def ioRowsVideo : List IoRow :=
  [ ioBits 0xFF40 .lcdc false
      [ioField 7 7 .rw "LCD On/Off", ioField 6 6 .rw "Window Addr", ioField 5 5 .rw "Window On/Off",
        ioField 4 3 .rw "Background Addr", ioField 2 2 .rw "Object Size", ioField 1 1 .rw "Object On/Off",
        ioField 0 0 .rw "Background On/Off"]
  , ioBits 0xFF41 .stat false
      [ioField 6 6 .rw "LYCEQU/Y Coincidence", ioField 5 5 .rw "Mode 10",
        ioField 4 4 .rw "Mode 01 (V-Blank)", ioField 3 3 .rw "Mode 00 (H-Blank)",
        ioField 2 2 .rw "Coincidence Flag", ioField 1 0 .rw "OAM/VRAM Lock"]
  , ioByte 0xFF42 .scy false .rw "Scroll Screen Y"
  , ioByte 0xFF43 .scx false .rw "Scroll Screen X"
  , ioByte 0xFF44 .ly false .rw "LCDC Y-Coord"
  , ioByte 0xFF45 .lyc false .rw "LY Compare"
  , ioByte 0xFF46 .dma false .rw "DMA Transfer"
  , ioByte 0xFF47 .bgp false .rw "BG Palette Data"
  , ioByte 0xFF48 .obp0 false .rw "Obj Palette 0 Data"
  , ioByte 0xFF49 .obp1 false .rw "Obj Palette 1 Data"
  , ioByte 0xFF4A .wy false .rw "Window Y Pos"
  , ioByte 0xFF4B .wx false .rw "Window X Pos"
  , ioByte 0xFF51 .hdma1 true .rw "HBL General DMA"
  , ioByte 0xFF52 .hdma2 true .rw "HBL General DMA"
  , ioByte 0xFF53 .hdma3 true .rw "HBL General DMA"
  , ioByte 0xFF54 .hdma4 true .rw "HBL General DMA"
  , ioByte 0xFF55 .hdma5 true .rw "HBL General DMA"
  , ioByte 0xFF56 .rp true .rw "Infrared Comms"
  , ioByte 0xFF68 .bcps true .rw "Bkg Colour Index"
  , ioByte 0xFF69 .bcpd true .rw "Bkg Colour Data"
  , ioByte 0xFF6A .ocps true .rw "Obj Colour Index"
  , ioByte 0xFF6B .ocpd true .rw "Obj Colour Data" ]

/-- The sixteen bytes of AUD3WAVERAM, $FF30 to $FF3F (R390). -/
def ioRowsWave : List IoRow :=
  (List.range 16).map fun i => ioByte (0xFF30 + i) (.waveRam (BitVec.ofNat 4 i)) false .rw "Wave pattern"

/-- Every row of the map (R401). -/
def ioRows : List IoRow := ioRowsSystem ++ ioRowsSound ++ ioRowsWave ++ ioRowsVideo

/-- Whether a row exists on a variant: the "GBC only" rows do on CGB alone (R9, R393). -/
def IoRow.onVariant (r : IoRow) (v : Variant) : Bool := !r.gbcOnly || v == .cgb

/-- The register at an address, if the variant has one there (R393, R401). -/
def ioRegAt (v : Variant) (a : Word) : Option IoReg :=
  (ioRows.find? fun r => r.addr == a.toNat && r.onVariant v).map (·.reg)

end Sys2Proof.Machine
end

