-- ==== Sys2Proof/Machine/Memory.lean ====
section
/-!
DEFINITION. Memory as a list of (key, byte) pairs in one canonical form: keys strictly rising, and no entry equal to
what an unlisted key reads as. A key is 65536 x bank + address (Machine/Bus.lean says which bank).
-/

namespace Sys2Proof.Machine

/-- DESIGN CHOICE (log 1). What a byte that is not listed reads as. -/
def blank : Byte := 0

/-- The byte at a key. -/
def Memory.read : Memory → Nat → Byte
  | [], _ => blank
  | (j, v) :: rest, k => if j = k then v else Memory.read rest k

/-- The memory without any entry for a key. -/
def Memory.erase : Memory → Nat → Memory
  | [], _ => []
  | (j, v) :: rest, k => if j = k then Memory.erase rest k else (j, v) :: Memory.erase rest k

/-- The memory with an entry for a key it does not list, at the place its key's order gives. -/
def Memory.insert : Memory → Nat → Byte → Memory
  | [], k, v => [(k, v)]
  | (j, w) :: rest, k, v => if k < j then (k, v) :: (j, w) :: rest else (j, w) :: Memory.insert rest k v

/-- The memory after a byte is written at a key; writing what an unlisted key reads as removes the entry. -/
def Memory.write (m : Memory) (k : Nat) (v : Byte) : Memory :=
  if v = blank then m.erase k else (m.erase k).insert k v

/-- The canonical form. -/
def Memory.wf : Memory → Bool
  | [] => true
  | (k, v) :: rest => (v != blank) && rest.all (fun c => decide (k < c.1)) && Memory.wf rest

end Sys2Proof.Machine
end

