-- ==== Sys2Proof/Machine/Bus.lean ====
section
/-!
DEFINITION. The memory map and the access primitives MemRead and MemWrite (20_memory.md R51, R52, R62, R70, R71;
60_exceptions.md R361, R362, R393, R396 to R400).
-/

namespace Sys2Proof.Machine

/-! ### What an address selects (R51, R70, R71) -/

/-- What a 16-bit address selects at this moment. A key names the byte of memory behind it. -/
inductive Place where
  /-- Cartridge ROM: read from memory, written as a controller command (R62, R64). -/
  | rom (key : Nat)
  /-- RAM: VRAM, cartridge RAM, work RAM, OAM, High RAM (R51). -/
  | ram (key : Nat)
  /-- VRAM or OAM while the LCD controller or a GDMA/HDMA holds it (R59, R397, R454; logs 10 and 12). -/
  | held (key : Nat)
  /-- The MBC3's selected clock register (R65). -/
  | clock (r : ClockReg)
  /-- IF, $FF0F (R361). -/
  | ifReg
  /-- IE, $FFFF (R362). -/
  | ieReg
  /-- Any other address in $FF00 to $FF7F (R70, R393). -/
  | device
  /-- Cartridge RAM or clock that is absent or disabled (R68). -/
  | absent
  /-- $E000 to $FDFF, $FEA0 to $FEFF: in no row of the memory map (R52). -/
  | unmapped
deriving DecidableEq, Repr

/-- The key of a byte of a bank. -/
def bankKey (bank addr : Nat) : Nat := bank * 65536 + addr

/-- The VRAM bank at $8000 to $9FFF: VBK on CGB, the only one on DMG (R398; log 13). -/
def vramBank (s : State) : Nat :=
  match s.cfg.variant with
  | .dmg => 0
  | .cgb => s.vbk.toNat

/-- The work RAM bank at $D000 to $DFFF: SVBK on CGB with 0 selecting bank 1, bank 1 on DMG (R398; log 13). -/
def wramBank (s : State) : Nat :=
  match s.cfg.variant with
  | .dmg => 1
  | .cgb => max 1 s.svbk.toNat

/-- The byte of ROM an address in $0000 to $7FFF shows: bank 0 below $4000, the selected bank above (R62). Bank n
from 1 on stands at bank key n - 1 with the addresses $4000 to $7FFF it has on the bus. -/
def romKey (s : State) (a : Word) : Nat :=
  if a.toNat < 0x4000 then a.toNat
  else match romBank s with
    | 0 => a.toNat - 0x4000
    | n + 1 => bankKey n a.toNat

/-- VRAM is held in mode 11 and during a GDMA or HDMA (R385, R397, R454). -/
def vramHeld (s : State) : Bool := s.lcdMode == 3 || s.vramDma

/-- OAM is held in modes 10 and 11 (R385, R454). -/
def oamHeld (s : State) : Bool := decide (2 ≤ s.lcdMode.toNat)

/-- RAM, unless it is held. -/
def ramOrHeld (held : Bool) (key : Nat) : Place := if held then .held key else .ram key

/-- The cartridge RAM window as a place: offset o of the RAM stands in bank o / 8192 at $A000 + o % 8192 (R62). -/
def cartPlace (s : State) (a : Word) : Place :=
  match cartWindow s a with
  | .ram o => .ram (bankKey (o / 8192) (0xA000 + o % 8192))
  | .clock r => .clock r
  | .absent => .absent

/-- What an address selects (R51, R70, R71). -/
def place (s : State) (a : Word) : Place :=
  let n := a.toNat
  if n < 0x8000 then .rom (romKey s a)
  else if n < 0xA000 then ramOrHeld (vramHeld s) (bankKey (vramBank s) n)
  else if n < 0xC000 then cartPlace s a
  else if n < 0xD000 then .ram n
  else if n < 0xE000 then .ram (bankKey (wramBank s - 1) n)
  else if n < 0xFE00 then .unmapped
  else if n < 0xFEA0 then ramOrHeld (oamHeld s) n
  else if n < 0xFF00 then .unmapped
  else if n = 0xFF0F then .ifReg
  else if n < 0xFF80 then .device
  else if n < 0xFFFF then .ram n
  else .ieReg

/-- High RAM: $FF80 to $FFFE (R51). -/
def isHighRam (a : Word) : Bool := decide (0xFF80 ≤ a.toNat ∧ a.toNat < 0xFFFF)

/-- The two ranges in no row of the memory map (R52). -/
def isUnmapped (a : Word) : Bool :=
  decide (0xE000 ≤ a.toNat ∧ a.toNat < 0xFE00) || decide (0xFEA0 ≤ a.toNat ∧ a.toNat < 0xFF00)

/-- During an OAM DMA the CPU can reach High RAM only (R396, U15; log 11). The unmapped ranges, where no access reaches
anything, keep the treatment of R52. -/
def dmaHides (s : State) (a : Word) : Bool := s.oamDma && !isHighRam a && !isUnmapped a

/-! ### Reading (R70) -/

/-- A free byte: what `DeviceOracle` answers at an address (R70, R75; log 7). -/
def drawByte (a : Word) (s : State) : Byte × State :=
  (Config.oracleByte s.queries s.devLog a.toNat, s.countQuery)

/-- What a read of $FF0F returns: `$E0 | IF` (R361). -/
def ifByte (s : State) : Byte := 0xE0 ||| s.ifReg.setWidth 8

/-- A byte with its bits 7 and 0 replaced by the two bits of KEY1 (R400). -/
def key1Byte (k : Key1) (v : Byte) : Byte :=
  (v &&& 0x7E) ||| (if k.speed then 0x80 else 0) ||| (if k.prepare then 0x01 else 0)

/-- A read of a device register: any byte (R70, R380); on CGB, KEY1's bits 7 and 0 are CPU state (R400). -/
def deviceRead (a : Word) (s : State) : Byte × State :=
  let d := drawByte a s
  match ioRegAt s.cfg.variant a with
  | some .key1 => (key1Byte s.key1 d.1, d.2)
  | _ => d

/-- An access to an unmapped address: under `UNMAPPED_ACCESS = refuse` the out-of-spec marker is set, which stops the
step (R52, D17; log 15). -/
def touchUnmapped (s : State) : State :=
  match s.cfg.unmapped with
  | .oracle => s
  | .refuse => s.setOutOfSpec true

/-- `MemRead(a, 1)` (R70). A read never faults. -/
def memRead (a : Word) (s : State) : Byte × State :=
  if dmaHides s a then drawByte a s
  else match place s a with
    | .rom k => (s.mem.read k, s)
    | .ram k => (s.mem.read k, s)
    | .held _ => drawByte a s
    | .clock r => (s.cart.latched.get r, s)
    | .ifReg => (ifByte s, s)
    | .ieReg => (s.ie, s)
    | .device => deviceRead a s
    | .absent => drawByte a s
    | .unmapped => drawByte a (touchUnmapped s)

/-! ### Writing (R71) -/

/-- A byte of memory becomes `v`. -/
def poke (k : Nat) (v : Byte) (s : State) : State := s.setMem (s.mem.write k v)

/-- A write that may or may not arrive: the byte afterwards is any value (U9, R59; log 10). -/
def pokeFree (k : Nat) (a : Word) (s : State) : State :=
  let d := drawByte a s
  poke k d.1 d.2

/-- A write of a clock register: the running clock takes the value; what a read then returns before the clock is
latched again is not said, so the byte that is read becomes a free one (R65; log 18). -/
def writeClock (r : ClockReg) (a : Word) (v : Byte) (s : State) : State :=
  let d := drawByte a s
  d.2.setCart { d.2.cart with live := d.2.cart.live.set r v, latched := d.2.cart.latched.set r d.1 }

/-- The first `n` bytes of an OAM DMA from page `v`: byte i of the page is copied to $FE00 + i (R396). -/
def copyToOam (v : Byte) : Nat → State → State
  | 0, s => s
  | n + 1, s =>
    let d := memRead (pair16 v (BitVec.ofNat 8 n)) (copyToOam v n s)
    poke (0xFE00 + n) d.1 d.2

/-- A write of `v` to $FF46 copies 160 bytes from `v : $00` into OAM, and from then until the devices report the end
of the transfer the CPU can reach High RAM only (R396; log 11). -/
def startOamDma (v : Byte) (s : State) : State := (copyToOam v Config.oamDmaBytes s).setOamDma true

/-- A write to a device register is handed to the device and recorded (R71). Those that change state the model
holds: DMA (R396), and on CGB KEY1 bit 0 (R400), VBK and SVBK (R398; log 13) and HDMA5 (R397; log 12). -/
def deviceWrite (a : Word) (v : Byte) (s : State) : State :=
  let t := s.logWrite a v
  match ioRegAt s.cfg.variant a with
  | some .dma => startOamDma v t
  | some .key1 => t.setKey1 { t.key1 with prepare := v.getLsbD 0 }
  | some .vbk => t.setVbk (v.setWidth 1)
  | some .svbk => t.setSvbk (v.setWidth 3)
  | some .hdma5 => t.setVramDma true
  | _ => t

/-- `MemWrite(a, 1, v)` (R71). A write never faults. -/
def memWrite (a : Word) (v : Byte) (s : State) : State :=
  match place s a with
  | .rom _ => cartCommand s a v
  | .ram k => if dmaHides s a then pokeFree k a s else poke k v s
  | .held k => pokeFree k a s
  | .clock r => writeClock r a v s
  | .ifReg => s.setIf (v.setWidth 5)
  | .ieReg => s.setIe v
  | .device => deviceWrite a v s
  | .absent => s
  | .unmapped => touchUnmapped s

/-! ### The byte at an address, where it is plain memory -/

/-- The byte that an address shows where it selects ROM or RAM the CPU can reach; none elsewhere. -/
def peek (s : State) (a : Word) : Option Byte :=
  if dmaHides s a then none
  else match place s a with
    | .rom k => some (s.mem.read k)
    | .ram k => some (s.mem.read k)
    | _ => none

/-- `MemRead(a, 2)` (R72): the low byte first. -/
def memRead16 (a : Word) (s : State) : Word × State :=
  let lo := memRead a s
  let hi := memRead (a + 1) lo.2
  (pair16 hi.1 lo.1, hi.2)

/-- `MemWrite(a, 2, v)` (R72): the low byte first. -/
def memWrite16 (a : Word) (v : Word) (s : State) : State :=
  memWrite (a + 1) (hi8 v) (memWrite a (lo8 v) s)

end Sys2Proof.Machine
end

