-- ==== Sys2Proof/Machine/Operands.lean ====
section
/-!
DEFINITION. Every register operand form: r8, r16, r16stk, the addressing pairs, F as a byte, the conditions, and
the address of the page $FF00 (00_scope.md R11, 10_state.md R22, R27, 30_encoding.md R94 to R100).
-/

namespace Sys2Proof.Machine

/-- F as a byte: Z N H C in bits 7 to 4, bits 3 to 0 zero (R26, R27). -/
def Flags.toByte (f : Flags) : Byte :=
  (if f.z then 0x80 else 0) ||| (if f.n then 0x40 else 0) ||| (if f.h then 0x20 else 0) |||
    (if f.c then 0x10 else 0)

/-- The flags of a byte written to F; its bits 3 to 0 are dropped (R27). -/
def Flags.ofByte (v : Byte) : Flags :=
  { z := v.getLsbD 7, n := v.getLsbD 6, h := v.getLsbD 5, c := v.getLsbD 4 }

/-- `x[r8]` in a register file (R11, R94). -/
def Regs.get8 (g : Regs) : R8 → Byte
  | .a => g.a
  | .b => g.b
  | .c => g.c
  | .d => g.d
  | .e => g.e
  | .h => g.h
  | .l => g.l

/-- `x[r8] <- v` in a register file (R11, R94). -/
def Regs.set8 (g : Regs) (r : R8) (v : Byte) : Regs :=
  match r with
  | .a => { g with a := v }
  | .b => { g with b := v }
  | .c => { g with c := v }
  | .d => { g with d := v }
  | .e => { g with e := v }
  | .h => { g with h := v }
  | .l => { g with l := v }

/-- `x[r16]` in a register file (R22, R95). -/
def Regs.get16 (g : Regs) : R16 → Word
  | .bc => pair16 g.b g.c
  | .de => pair16 g.d g.e
  | .hl => pair16 g.h g.l
  | .sp => g.sp

/-- `x[r16] <- v` in a register file (R22, R95). -/
def Regs.set16 (g : Regs) (p : R16) (v : Word) : Regs :=
  match p with
  | .bc => { g with b := hi8 v, c := lo8 v }
  | .de => { g with d := hi8 v, e := lo8 v }
  | .hl => { g with h := hi8 v, l := lo8 v }
  | .sp => { g with sp := v }

/-- `x[r16stk]` in a register file (R22, R96); AF is A and F (R27). -/
def Regs.get16Stk (g : Regs) : R16Stk → Word
  | .bc => pair16 g.b g.c
  | .de => pair16 g.d g.e
  | .hl => pair16 g.h g.l
  | .af => pair16 g.a g.f.toByte

/-- `x[r16stk] <- v` in a register file (R22, R96); bits 3 to 0 of F stay zero (R27). -/
def Regs.set16Stk (g : Regs) (p : R16Stk) (v : Word) : Regs :=
  match p with
  | .bc => { g with b := hi8 v, c := lo8 v }
  | .de => { g with d := hi8 v, e := lo8 v }
  | .hl => { g with h := hi8 v, l := lo8 v }
  | .af => { g with a := hi8 v, f := Flags.ofByte (lo8 v) }

/-- `x[r8]` (R11, R94). -/
def State.getR8 (s : State) (r : R8) : Byte := s.regs.get8 r

/-- `x[r8] <- v` (R11, R94). -/
def State.setR8 (s : State) (r : R8) (v : Byte) : State := s.setRegs (s.regs.set8 r v)

/-- `x[r16]` (R95). -/
def State.getR16 (s : State) (p : R16) : Word := s.regs.get16 p

/-- `x[r16] <- v` (R95). -/
def State.setR16 (s : State) (p : R16) (v : Word) : State := s.setRegs (s.regs.set16 p v)

/-- `x[r16stk]` (R96). -/
def State.getR16Stk (s : State) (p : R16Stk) : Word := s.regs.get16Stk p

/-- `x[r16stk] <- v` (R96). -/
def State.setR16Stk (s : State) (p : R16Stk) (v : Word) : State := s.setRegs (s.regs.set16Stk p v)

/-- `x[BC]` (R22). -/
def State.bc (s : State) : Word := s.getR16 .bc

/-- `x[DE]` (R22). -/
def State.de (s : State) : Word := s.getR16 .de

/-- `x[HL]` (R22). -/
def State.hl (s : State) : Word := s.getR16 .hl

/-- `x[HL] <- v` (R22). -/
def State.setHl (s : State) (v : Word) : State := s.setR16 .hl v

/-- The address in BC or DE (R98, R134, R136). -/
def State.addrR16Mem (s : State) : R16Mem → Word
  | .bc => s.bc
  | .de => s.de

/-- `$FF00 + zext_16(n)`: an address of the page that LDH and LD (C) reach (R100, R142, R144). -/
def highPage (n : Byte) : Word := 0xFF00 + zext16 n

/-- The truth value of a condition (R97, R310). -/
def cond (f : Flags) : Cond → Bool
  | .nz => !f.z
  | .z => f.z
  | .nc => !f.c
  | .c => f.c

end Sys2Proof.Machine
end

