-- ==== Sys2Proof/Machine/Ops.lean ====
section
/-!
DEFINITION. The named operations over memory and registers: fetching (20_memory.md R73), the stack (R74), taking an
interrupt (60_exceptions.md R368), returning from one (45_control.md R320), and locking up on an undefined opcode
(60_exceptions.md R360).
-/

namespace Sys2Proof.Machine

/-! ### Fetching (R73) -/

/-- `Fetch8()` (R73): pc wraps modulo 2^16 (R25). -/
def fetch8 (s : State) : Byte × State :=
  let d := memRead s.regs.pc s
  (d.1, d.2.setPc (d.2.regs.pc + 1))

/-- Fetch all the bytes of the next instruction, in increasing address order (R56, R73, R90), and decode them. No
instruction touches data memory before its last operand byte has been fetched (log 27). -/
def fetchInstr (s : State) : Instr × State :=
  let d0 := fetch8 s
  match instrSize d0.1 with
  | 1 => (decodeBytes d0.1 0 0, d0.2)
  | 2 =>
    let d1 := fetch8 d0.2
    (decodeBytes d0.1 d1.1 0, d1.2)
  | _ =>
    let d1 := fetch8 d0.2
    let d2 := fetch8 d1.2
    (decodeBytes d0.1 d1.1 d2.1, d2.2)

/-! ### The stack (R24, R74) -/

/-- One byte pushed: SP is decremented, then the byte is stored at SP (R74). -/
def push8 (v : Byte) (s : State) : State :=
  memWrite (s.regs.sp - 1) v (s.setSp (s.regs.sp - 1))

/-- `Push16(v)`: the high byte first (R74). -/
def push16 (v : Word) (s : State) : State := push8 (lo8 v) (push8 (hi8 v) s)

/-- One byte popped: the byte at SP is read, then SP is incremented (R74). -/
def pop8 (s : State) : Byte × State :=
  let d := memRead s.regs.sp s
  (d.1, d.2.setSp (d.2.regs.sp + 1))

/-- `Pop16()`: the low byte first (R74). -/
def pop16 (s : State) : Word × State :=
  let lo := pop8 s
  let hi := pop8 lo.2
  (pair16 hi.1 lo.1, hi.2)

/-! ### Interrupts (R361 to R369) -/

/-- The bit number of a source in IF and IE (R361). -/
def Irq.index : Irq → Nat
  | .vblank => 0
  | .lcd => 1
  | .timer => 2
  | .serial => 3
  | .joypad => 4

/-- The fixed vector of a source, $0040 + 8k (R363). -/
def Irq.vector (k : Irq) : Word := 0x0040 + 8 * BitVec.ofNat 16 k.index

/-- The request bit of a source (R361). -/
def Irq.mask (k : Irq) : BitVec 5 := (1 : BitVec 5) <<< k.index

/-- `IF & IE & $1F` (R366). -/
def pending (s : State) : BitVec 5 := s.ifReg &&& s.ie.setWidth 5

/-- The lowest-numbered request that is set: VBlank, LCD, Timer, Serial, Joypad (R367). -/
def firstPending (p : BitVec 5) : Option Irq :=
  if p.getLsbD 0 then some .vblank
  else if p.getLsbD 1 then some .lcd
  else if p.getLsbD 2 then some .timer
  else if p.getLsbD 3 then some .serial
  else if p.getLsbD 4 then some .joypad
  else none

/-- `Dispatch(k)`, interrupt entry, its four lines in their order (R368): IME and ei_delay cleared, the served bit of
IF cleared, pc pushed, pc at the vector. -/
def takeInterrupt (k : Irq) (s : State) : State :=
  let s1 := s.setIme false false
  let s2 := s1.setIf (s1.ifReg &&& ~~~k.mask)
  (push16 s2.regs.pc s2).setPc k.vector

/-- Return from interrupt: pc popped, IME set at once, ei_delay cleared (R320, R369). -/
def returnFromInterrupt (s : State) : State :=
  let d := pop16 s
  (d.2.setPc d.1).setIme true false

/-! ### Undefined opcodes (R112, R360) -/

/-- `raise IllegalOpcode`: mode becomes Locked and no other state changes (R13, R112, R360). -/
def lockUp (s : State) : State := s.setMode .locked

/-! ### Control transfer (R310) -/

/-- A relative jump from the next instruction's address (R100, R317). -/
def jumpRelative (e : Byte) (s : State) : State := s.setPc (s.regs.pc + sext16 e)

/-- A call: the next instruction's address pushed, pc at the target (R312). -/
def callTo (a : Word) (s : State) : State := (push16 s.regs.pc s).setPc a

/-- A return: pc popped (R318). -/
def returnTo (s : State) : State :=
  let d := pop16 s
  d.2.setPc d.1

end Sys2Proof.Machine
end

