-- ==== Sys2Proof/Machine/Alu16.lean ====
section
/-!
DEFINITION. 16-bit arithmetic (43_alu16.md R240 to R244).
-/

namespace Sys2Proof.Machine

/-- ADD HL,r16 (R241). -/
def execAddHLR16 (p : R16) (s : State) : Result :=
  let d := addHl16 s.cfg.addhlZFromSource s.hl (s.getR16 p) s.regs.f
  .next ((s.setHl d.1).setFlags d.2)

/-- ADD SP,e8 (R242). -/
def execAddSPE8 (e : Byte) (s : State) : Result :=
  let d := addSp8 s.regs.sp e
  .next ((s.setSp d.1).setFlags d.2)

/-- DEC r16: no flag (R243). -/
def execDecR16 (p : R16) (s : State) : Result := .next (s.setR16 p (s.getR16 p - 1))

/-- INC r16: no flag (R244). -/
def execIncR16 (p : R16) (s : State) : Result := .next (s.setR16 p (s.getR16 p + 1))

end Sys2Proof.Machine
end

