-- ==== Sys2Proof/Machine/Alu8.lean ====
section
/-!
DEFINITION. 8-bit arithmetic and logic (42_alu8.md R180 to R219).
-/

namespace Sys2Proof.Machine

/-- Write A and the flags. -/
def setAFlags (d : Byte × Flags) (s : State) : State := (s.setA d.1).setFlags d.2

/-- The byte at HL as the second operand: read once, then used in the state after the read (R213). -/
def withHL (op : Byte → State → State) (s : State) : State :=
  let d := memRead s.hl s
  op d.1 d.2

/-- ADC A,v (R180 to R182). -/
def adcA (v : Byte) (s : State) : State := setAFlags (add8 s.regs.a v s.regs.f.c) s

/-- ADD A,v (R183 to R185). -/
def addA (v : Byte) (s : State) : State := setAFlags (add8 s.regs.a v false) s

/-- AND v (R186 to R188, R216). -/
def andA (v : Byte) (s : State) : State :=
  let r := s.regs.a &&& v
  setAFlags (r, logicFlags r true) s

/-- CP v: the flags of the difference, A not written (R190 to R192). -/
def cpA (v : Byte) (s : State) : State := s.setFlags (sub8 s.regs.a v false).2

/-- OR v (R200 to R202, R216). -/
def orA (v : Byte) (s : State) : State :=
  let r := s.regs.a ||| v
  setAFlags (r, logicFlags r false) s

/-- SBC A,v (R203 to R205). -/
def sbcA (v : Byte) (s : State) : State := setAFlags (sub8 s.regs.a v s.regs.f.c) s

/-- SUB v (R207 to R209). -/
def subA (v : Byte) (s : State) : State := setAFlags (sub8 s.regs.a v false) s

/-- XOR v (R210 to R212, R216). -/
def xorA (v : Byte) (s : State) : State :=
  let r := s.regs.a ^^^ v
  setAFlags (r, logicFlags r false) s

/-- Read the byte at HL, compute a byte and flags from it and the flags, write the byte back to the same address
(R58, R195, R197, R260). -/
def modifyHL (op : Byte → Flags → Byte × Flags) (s : State) : State :=
  let d := memRead s.hl s
  let r := op d.1 d.2.regs.f
  (memWrite s.hl r.1 d.2).setFlags r.2

/-- The same on a register (R196, R198, R260). -/
def modifyR8 (r : R8) (op : Byte → Flags → Byte × Flags) (s : State) : State :=
  let d := op (s.getR8 r) s.regs.f
  (s.setR8 r d.1).setFlags d.2

/-- ADC A,(HL) (R180). -/
def execAdcAHL (s : State) : Result := .next (withHL adcA s)

/-- ADC A,n8 (R181). -/
def execAdcAN8 (n : Byte) (s : State) : Result := .next (adcA n s)

/-- ADC A,r8 (R182). -/
def execAdcAR8 (r : R8) (s : State) : Result := .next (adcA (s.getR8 r) s)

/-- ADD A,(HL) (R183). -/
def execAddAHL (s : State) : Result := .next (withHL addA s)

/-- ADD A,n8 (R184). -/
def execAddAN8 (n : Byte) (s : State) : Result := .next (addA n s)

/-- ADD A,r8 (R185). -/
def execAddAR8 (r : R8) (s : State) : Result := .next (addA (s.getR8 r) s)

/-- AND (HL) (R186). -/
def execAndHL (s : State) : Result := .next (withHL andA s)

/-- AND n8 (R187). -/
def execAndN8 (n : Byte) (s : State) : Result := .next (andA n s)

/-- AND r8 (R188). -/
def execAndR8 (r : R8) (s : State) : Result := .next (andA (s.getR8 r) s)

/-- CP (HL) (R190). -/
def execCpHL (s : State) : Result := .next (withHL cpA s)

/-- CP n8 (R191). -/
def execCpN8 (n : Byte) (s : State) : Result := .next (cpA n s)

/-- CP r8 (R192). -/
def execCpR8 (r : R8) (s : State) : Result := .next (cpA (s.getR8 r) s)

/-- OR (HL) (R200). -/
def execOrHL (s : State) : Result := .next (withHL orA s)

/-- OR n8 (R201). -/
def execOrN8 (n : Byte) (s : State) : Result := .next (orA n s)

/-- OR r8 (R202). -/
def execOrR8 (r : R8) (s : State) : Result := .next (orA (s.getR8 r) s)

/-- SBC A,(HL) (R203). -/
def execSbcAHL (s : State) : Result := .next (withHL sbcA s)

/-- SBC A,n8 (R204). -/
def execSbcAN8 (n : Byte) (s : State) : Result := .next (sbcA n s)

/-- SBC A,r8 (R205). -/
def execSbcAR8 (r : R8) (s : State) : Result := .next (sbcA (s.getR8 r) s)

/-- SUB (HL) (R207). -/
def execSubHL (s : State) : Result := .next (withHL subA s)

/-- SUB n8 (R208). -/
def execSubN8 (n : Byte) (s : State) : Result := .next (subA n s)

/-- SUB r8 (R209). -/
def execSubR8 (r : R8) (s : State) : Result := .next (subA (s.getR8 r) s)

/-- XOR (HL) (R210). -/
def execXorHL (s : State) : Result := .next (withHL xorA s)

/-- XOR n8 (R211). -/
def execXorN8 (n : Byte) (s : State) : Result := .next (xorA n s)

/-- XOR r8 (R212). -/
def execXorR8 (r : R8) (s : State) : Result := .next (xorA (s.getR8 r) s)

/-- CCF: C complemented, N and H cleared, Z kept (R189). -/
def execCcf (s : State) : Result :=
  .next (s.setFlags { s.regs.f with n := false, h := false, c := !s.regs.f.c })

/-- CPL: A complemented, N and H set, Z and C kept (R193). -/
def execCpl (s : State) : Result :=
  .next ((s.setA (s.regs.a ^^^ 0xFF)).setFlags { s.regs.f with n := true, h := true })

/-- DAA (R194). -/
def execDaa (s : State) : Result := .next (setAFlags (daa8 s.regs.a s.regs.f) s)

/-- SCF: C set, N and H cleared, Z kept (R206). -/
def execScf (s : State) : Result :=
  .next (s.setFlags { s.regs.f with n := false, h := false, c := true })

/-- DEC (HL) (R195). -/
def execDecHL (s : State) : Result := .next (modifyHL dec8 s)

/-- DEC r8 (R196). -/
def execDecR8 (r : R8) (s : State) : Result := .next (modifyR8 r dec8 s)

/-- INC (HL) (R197). -/
def execIncHL (s : State) : Result := .next (modifyHL inc8 s)

/-- INC r8 (R198). -/
def execIncR8 (r : R8) (s : State) : Result := .next (modifyR8 r inc8 s)

end Sys2Proof.Machine
end

