-- ==== Sys2Proof/Machine/Control.lean ====
section
/-!
DEFINITION. Control flow (45_control.md R310 to R326). pc is already the address of the next instruction (R310).
-/

namespace Sys2Proof.Machine

/-- CALL cc,n16 (R311). -/
def execCallCC (cc : Cond) (a : Word) (s : State) : Result :=
  .next (if cond s.regs.f cc then callTo a s else s)

/-- CALL n16 (R312). -/
def execCallN16 (a : Word) (s : State) : Result := .next (callTo a s)

/-- JP (HL): pc takes HL itself (R313). -/
def execJpHL (s : State) : Result := .next (s.setPc s.hl)

/-- JP cc,n16 (R314). -/
def execJpCC (cc : Cond) (a : Word) (s : State) : Result :=
  .next (if cond s.regs.f cc then s.setPc a else s)

/-- JP n16 (R315). -/
def execJpN16 (a : Word) (s : State) : Result := .next (s.setPc a)

/-- JR cc,e8 (R316). -/
def execJrCC (cc : Cond) (e : Byte) (s : State) : Result :=
  .next (if cond s.regs.f cc then jumpRelative e s else s)

/-- JR e8 (R317). -/
def execJrE8 (e : Byte) (s : State) : Result := .next (jumpRelative e s)

/-- RET (R318). -/
def execRet (s : State) : Result := .next (returnTo s)

/-- RET cc (R319). -/
def execRetCC (cc : Cond) (s : State) : Result :=
  .next (if cond s.regs.f cc then returnTo s else s)

/-- RETI (R320, R369). -/
def execReti (s : State) : Result := .next (returnFromInterrupt s)

/-- RST f (R326). -/
def execRst (f : Byte) (s : State) : Result := .next (callTo (zext16 f) s)

end Sys2Proof.Machine
end

