-- ==== Sys2Proof/Machine/Load16.lean ====
section
/-!
DEFINITION. The 16-bit loads and the stack (41_load16.md R160 to R171).
-/

namespace Sys2Proof.Machine

/-- LD (n16),SP: the low byte at n16, then the high byte at n16 + 1 (R161). -/
def execLdN16SP (a : Word) (s : State) : Result := .next (memWrite16 a s.regs.sp s)

/-- LD HL,SP+e8 (R163). -/
def execLdHLSPE8 (e : Byte) (s : State) : Result :=
  let d := addSp8 s.regs.sp e
  .next ((s.setHl d.1).setFlags d.2)

/-- LD r16,n16 (R164). -/
def execLdR16N16 (p : R16) (n : Word) (s : State) : Result := .next (s.setR16 p n)

/-- LD SP,HL (R165). -/
def execLdSPHL (s : State) : Result := .next (s.setSp s.hl)

/-- POP r16; POP AF drops bits 3 to 0 of the byte popped into F (R170). -/
def execPopR16 (p : R16Stk) (s : State) : Result :=
  let d := pop16 s
  .next (d.2.setR16Stk p d.1)

/-- PUSH r16 (R171). -/
def execPushR16 (p : R16Stk) (s : State) : Result := .next (push16 (s.getR16Stk p) s)

end Sys2Proof.Machine
end

