-- ==== Sys2Proof/Machine/Load8.lean ====
section
/-!
DEFINITION. The 8-bit loads (40_load8.md R130 to R147): one byte moved, no flag read or written.
-/

namespace Sys2Proof.Machine

/-- A byte of memory into A: the read, then A (R135, R136, R141, R143, R145, R147). -/
def loadA (a : Word) (s : State) : State :=
  let d := memRead a s
  d.2.setA d.1

/-- LD (HL),n8 (R131). -/
def execLdHLN8 (n : Byte) (s : State) : Result := .next (memWrite s.hl n s)

/-- LD (HL),r8 (R132). -/
def execLdHLR8 (r : R8) (s : State) : Result := .next (memWrite s.hl (s.getR8 r) s)

/-- LD (n16),A (R133). -/
def execLdN16A (a : Word) (s : State) : Result := .next (memWrite a s.regs.a s)

/-- LD (r16),A (R134). -/
def execLdR16A (p : R16Mem) (s : State) : Result := .next (memWrite (s.addrR16Mem p) s.regs.a s)

/-- LD A,(n16) (R135). -/
def execLdAN16 (a : Word) (s : State) : Result := .next (loadA a s)

/-- LD A,(r16) (R136). -/
def execLdAR16 (p : R16Mem) (s : State) : Result := .next (loadA (s.addrR16Mem p) s)

/-- LD r8,(HL) (R137). -/
def execLdR8HL (dst : R8) (s : State) : Result :=
  let d := memRead s.hl s
  .next (d.2.setR8 dst d.1)

/-- LD r8,n8 (R138). -/
def execLdR8N8 (dst : R8) (n : Byte) (s : State) : Result := .next (s.setR8 dst n)

/-- LD r8,r8 (R139). -/
def execLdR8R8 (dst r : R8) (s : State) : Result := .next (s.setR8 dst (s.getR8 r))

/-- LDD (HL),A: the store uses HL before the decrement (R140). -/
def execLddHLA (s : State) : Result := .next ((memWrite s.hl s.regs.a s).setHl (s.hl - 1))

/-- LDD A,(HL) (R141). -/
def execLddAHL (s : State) : Result := .next ((loadA s.hl s).setHl (s.hl - 1))

/-- LD (C),A (R142). -/
def execLdCA (s : State) : Result := .next (memWrite (highPage s.regs.c) s.regs.a s)

/-- LD A,(C) (R143). -/
def execLdAC (s : State) : Result := .next (loadA (highPage s.regs.c) s)

/-- LDH (n8),A (R144). -/
def execLdhN8A (n : Byte) (s : State) : Result := .next (memWrite (highPage n) s.regs.a s)

/-- LDH A,(n8) (R145). -/
def execLdhAN8 (n : Byte) (s : State) : Result := .next (loadA (highPage n) s)

/-- LDI (HL),A: the store uses HL before the increment (R146). -/
def execLdiHLA (s : State) : Result := .next ((memWrite s.hl s.regs.a s).setHl (s.hl + 1))

/-- LDI A,(HL) (R147). -/
def execLdiAHL (s : State) : Result := .next ((loadA s.hl s).setHl (s.hl + 1))

end Sys2Proof.Machine
end

