-- ==== Sys2Proof/Machine/Rotate.lean ====
section
/-!
DEFINITION. Rotates, shifts, SWAP and the single-bit instructions (44_rotate_shift_bit.md R260 to R286).
-/

namespace Sys2Proof.Machine

/-- A rotate of A by one of the four one-byte forms (R261 to R264). -/
def rotateA (op : RotOp) (s : State) : State :=
  setAFlags (rotAFlagged s.cfg.rotaZFromSource op s.regs.a s.regs.f) s

/-- RLCA (R261). -/
def execRlca (s : State) : Result := .next (rotateA .rlc s)

/-- RLA (R262). -/
def execRla (s : State) : Result := .next (rotateA .rl s)

/-- RRCA (R263). -/
def execRrca (s : State) : Result := .next (rotateA .rrc s)

/-- RRA (R264). -/
def execRra (s : State) : Result := .next (rotateA .rr s)

/-- RL (HL) (R265). -/
def execRlHL (s : State) : Result := .next (modifyHL (rotFlagged .rl) s)

/-- RL r8 (R266). -/
def execRlR8 (r : R8) (s : State) : Result := .next (modifyR8 r (rotFlagged .rl) s)

/-- RLC (HL) (R267). -/
def execRlcHL (s : State) : Result := .next (modifyHL (rotFlagged .rlc) s)

/-- RLC r8 (R268). -/
def execRlcR8 (r : R8) (s : State) : Result := .next (modifyR8 r (rotFlagged .rlc) s)

/-- RR (HL) (R269). -/
def execRrHL (s : State) : Result := .next (modifyHL (rotFlagged .rr) s)

/-- RR r8 (R270). -/
def execRrR8 (r : R8) (s : State) : Result := .next (modifyR8 r (rotFlagged .rr) s)

/-- RRC (HL) (R271). -/
def execRrcHL (s : State) : Result := .next (modifyHL (rotFlagged .rrc) s)

/-- RRC r8 (R272). -/
def execRrcR8 (r : R8) (s : State) : Result := .next (modifyR8 r (rotFlagged .rrc) s)

/-- SLA (HL) (R273). -/
def execSlaHL (s : State) : Result := .next (modifyHL (rotFlagged .sla) s)

/-- SLA r8 (R274). -/
def execSlaR8 (r : R8) (s : State) : Result := .next (modifyR8 r (rotFlagged .sla) s)

/-- SRA (HL) (R275). -/
def execSraHL (s : State) : Result := .next (modifyHL (rotFlagged .sra) s)

/-- SRA r8 (R276). -/
def execSraR8 (r : R8) (s : State) : Result := .next (modifyR8 r (rotFlagged .sra) s)

/-- SRL (HL) (R277). -/
def execSrlHL (s : State) : Result := .next (modifyHL (rotFlagged .srl) s)

/-- SRL r8 (R278). -/
def execSrlR8 (r : R8) (s : State) : Result := .next (modifyR8 r (rotFlagged .srl) s)

/-- SWAP (HL) (R279). -/
def execSwapHL (s : State) : Result := .next (modifyHL (rotFlagged .swap) s)

/-- SWAP r8 (R280). -/
def execSwapR8 (r : R8) (s : State) : Result := .next (modifyR8 r (rotFlagged .swap) s)

/-- BIT n3,(HL): one read, no write (R58, R281). -/
def execBitHL (b : BitVec 3) (s : State) : Result :=
  let d := memRead s.hl s
  .next (d.2.setFlags (bitFlags b d.1 d.2.regs.f))

/-- BIT n3,r8 (R282). -/
def execBitR8 (b : BitVec 3) (r : R8) (s : State) : Result :=
  .next (s.setFlags (bitFlags b (s.getR8 r) s.regs.f))

/-- RES n3,(HL): one read, one write, no flag (R283). -/
def execResHL (b : BitVec 3) (s : State) : Result :=
  let d := memRead s.hl s
  .next (memWrite s.hl (resBit b d.1) d.2)

/-- RES n3,r8 (R284). -/
def execResR8 (b : BitVec 3) (r : R8) (s : State) : Result := .next (s.setR8 r (resBit b (s.getR8 r)))

/-- SET n3,(HL): one read, one write, no flag (R285). -/
def execSetHL (b : BitVec 3) (s : State) : Result :=
  let d := memRead s.hl s
  .next (memWrite s.hl (setBit b d.1) d.2)

/-- SET n3,r8 (R286). -/
def execSetR8 (b : BitVec 3) (r : R8) (s : State) : Result := .next (s.setR8 r (setBit b (s.getR8 r)))

end Sys2Proof.Machine
end

