-- ==== Sys2Proof/Machine/System.lean ====
section
/-!
DEFINITION. The system instructions (46_system.md R340 to R346) and the undefined opcodes (30_encoding.md R112).
-/

namespace Sys2Proof.Machine

/-- DI: IME and ei_delay cleared at once (R341). -/
def execDi (s : State) : Result := .next (s.setIme false false)

/-- EI: with IME = 0, ei_delay is set; IME follows after the next instruction (R32, R342, R366). -/
def execEi (s : State) : Result := .next (if s.ime then s else s.setIme s.ime true)

/-- HALT (R344): refused with IME = 0 and an enabled request pending, else mode becomes Halted. -/
def execHalt (s : State) : Result :=
  if !s.ime && pending s != 0 then .refused .haltPending else .next (s.setMode .halted)

/-- NOP (R345). -/
def execNop (s : State) : Result := .next s

/-- STOP (R346); the second byte is ignored (R113). On CGB with KEY1 bit 0 set the speed switches; otherwise it is
refused while an enabled request is pending, and else mode becomes Stopped. -/
def execStop (_n : Byte) (s : State) : Result :=
  if s.cfg.variant == .cgb && s.key1.prepare then
    .next (s.setKey1 { speed := !s.key1.speed, prepare := false })
  else if pending s != 0 then .refused .stopPending
  else .next (s.setMode .stopped)

/-- The undefined opcode $D3 (R112, R360). -/
def execUndefD3 (s : State) : Result := .next (lockUp s)

/-- The undefined opcode $DB (R112, R360). -/
def execUndefDB (s : State) : Result := .next (lockUp s)

/-- The undefined opcode $DD (R112, R360). -/
def execUndefDD (s : State) : Result := .next (lockUp s)

/-- The undefined opcode $E3 (R112, R360). -/
def execUndefE3 (s : State) : Result := .next (lockUp s)

/-- The undefined opcode $E4 (R112, R360). -/
def execUndefE4 (s : State) : Result := .next (lockUp s)

/-- The undefined opcode $EB (R112, R360). -/
def execUndefEB (s : State) : Result := .next (lockUp s)

/-- The undefined opcode $EC (R112, R360). -/
def execUndefEC (s : State) : Result := .next (lockUp s)

/-- The undefined opcode $ED (R112, R360). -/
def execUndefED (s : State) : Result := .next (lockUp s)

/-- The undefined opcode $F4 (R112, R360). -/
def execUndefF4 (s : State) : Result := .next (lockUp s)

/-- The undefined opcode $FC (R112, R360). -/
def execUndefFC (s : State) : Result := .next (lockUp s)

/-- The undefined opcode $FD (R112, R360). -/
def execUndefFD (s : State) : Result := .next (lockUp s)

end Sys2Proof.Machine
end

