-- ==== Sys2Proof/Machine/Dispatch.lean ====
section
/-! DEFINITION. One arm per constructor of Instr, each one call of the instruction's meaning. pc already stands at the
address of the next instruction (R14, R310). -/

namespace Sys2Proof.Machine

def exec (i : Instr) (s : State) : Host.Outcome State Fault Refusal :=
  match i with
  | .adcAHL => Sys2Proof.Machine.execAdcAHL s
  | .adcAN8 n => Sys2Proof.Machine.execAdcAN8 n s
  | .adcAR8 r => Sys2Proof.Machine.execAdcAR8 r s
  | .addAHL => Sys2Proof.Machine.execAddAHL s
  | .addAN8 n => Sys2Proof.Machine.execAddAN8 n s
  | .addAR8 r => Sys2Proof.Machine.execAddAR8 r s
  | .addHLR16 p => Sys2Proof.Machine.execAddHLR16 p s
  | .addSPE8 e => Sys2Proof.Machine.execAddSPE8 e s
  | .andHL => Sys2Proof.Machine.execAndHL s
  | .andN8 n => Sys2Proof.Machine.execAndN8 n s
  | .andR8 r => Sys2Proof.Machine.execAndR8 r s
  | .bitHL b => Sys2Proof.Machine.execBitHL b s
  | .bitR8 b r => Sys2Proof.Machine.execBitR8 b r s
  | .callCC cc a => Sys2Proof.Machine.execCallCC cc a s
  | .callN16 a => Sys2Proof.Machine.execCallN16 a s
  | .ccf => Sys2Proof.Machine.execCcf s
  | .cpHL => Sys2Proof.Machine.execCpHL s
  | .cpN8 n => Sys2Proof.Machine.execCpN8 n s
  | .cpR8 r => Sys2Proof.Machine.execCpR8 r s
  | .cpl => Sys2Proof.Machine.execCpl s
  | .daa => Sys2Proof.Machine.execDaa s
  | .decHL => Sys2Proof.Machine.execDecHL s
  | .decR16 p => Sys2Proof.Machine.execDecR16 p s
  | .decR8 r => Sys2Proof.Machine.execDecR8 r s
  | .di => Sys2Proof.Machine.execDi s
  | .ei => Sys2Proof.Machine.execEi s
  | .halt => Sys2Proof.Machine.execHalt s
  | .incHL => Sys2Proof.Machine.execIncHL s
  | .incR16 p => Sys2Proof.Machine.execIncR16 p s
  | .incR8 r => Sys2Proof.Machine.execIncR8 r s
  | .jpHL => Sys2Proof.Machine.execJpHL s
  | .jpCC cc a => Sys2Proof.Machine.execJpCC cc a s
  | .jpN16 a => Sys2Proof.Machine.execJpN16 a s
  | .jrCC cc e => Sys2Proof.Machine.execJrCC cc e s
  | .jrE8 e => Sys2Proof.Machine.execJrE8 e s
  | .ldCA => Sys2Proof.Machine.execLdCA s
  | .ldHLN8 n => Sys2Proof.Machine.execLdHLN8 n s
  | .ldHLR8 r => Sys2Proof.Machine.execLdHLR8 r s
  | .ldN16A a => Sys2Proof.Machine.execLdN16A a s
  | .ldN16SP a => Sys2Proof.Machine.execLdN16SP a s
  | .ldR16A p => Sys2Proof.Machine.execLdR16A p s
  | .ldAC => Sys2Proof.Machine.execLdAC s
  | .ldAN16 a => Sys2Proof.Machine.execLdAN16 a s
  | .ldAR16 p => Sys2Proof.Machine.execLdAR16 p s
  | .ldHLSPE8 e => Sys2Proof.Machine.execLdHLSPE8 e s
  | .ldR16N16 p n => Sys2Proof.Machine.execLdR16N16 p n s
  | .ldR8HL dst => Sys2Proof.Machine.execLdR8HL dst s
  | .ldR8N8 dst n => Sys2Proof.Machine.execLdR8N8 dst n s
  | .ldR8R8 dst r => Sys2Proof.Machine.execLdR8R8 dst r s
  | .ldSPHL => Sys2Proof.Machine.execLdSPHL s
  | .lddHLA => Sys2Proof.Machine.execLddHLA s
  | .lddAHL => Sys2Proof.Machine.execLddAHL s
  | .ldhN8A n => Sys2Proof.Machine.execLdhN8A n s
  | .ldhAN8 n => Sys2Proof.Machine.execLdhAN8 n s
  | .ldiHLA => Sys2Proof.Machine.execLdiHLA s
  | .ldiAHL => Sys2Proof.Machine.execLdiAHL s
  | .nop => Sys2Proof.Machine.execNop s
  | .orHL => Sys2Proof.Machine.execOrHL s
  | .orN8 n => Sys2Proof.Machine.execOrN8 n s
  | .orR8 r => Sys2Proof.Machine.execOrR8 r s
  | .popR16 p => Sys2Proof.Machine.execPopR16 p s
  | .pushR16 p => Sys2Proof.Machine.execPushR16 p s
  | .resHL b => Sys2Proof.Machine.execResHL b s
  | .resR8 b r => Sys2Proof.Machine.execResR8 b r s
  | .ret => Sys2Proof.Machine.execRet s
  | .retCC cc => Sys2Proof.Machine.execRetCC cc s
  | .reti => Sys2Proof.Machine.execReti s
  | .rlHL => Sys2Proof.Machine.execRlHL s
  | .rlR8 r => Sys2Proof.Machine.execRlR8 r s
  | .rla => Sys2Proof.Machine.execRla s
  | .rlcHL => Sys2Proof.Machine.execRlcHL s
  | .rlcR8 r => Sys2Proof.Machine.execRlcR8 r s
  | .rlca => Sys2Proof.Machine.execRlca s
  | .rrHL => Sys2Proof.Machine.execRrHL s
  | .rrR8 r => Sys2Proof.Machine.execRrR8 r s
  | .rra => Sys2Proof.Machine.execRra s
  | .rrcHL => Sys2Proof.Machine.execRrcHL s
  | .rrcR8 r => Sys2Proof.Machine.execRrcR8 r s
  | .rrca => Sys2Proof.Machine.execRrca s
  | .rst f => Sys2Proof.Machine.execRst f s
  | .sbcAHL => Sys2Proof.Machine.execSbcAHL s
  | .sbcAN8 n => Sys2Proof.Machine.execSbcAN8 n s
  | .sbcAR8 r => Sys2Proof.Machine.execSbcAR8 r s
  | .scf => Sys2Proof.Machine.execScf s
  | .setHL b => Sys2Proof.Machine.execSetHL b s
  | .setR8 b r => Sys2Proof.Machine.execSetR8 b r s
  | .slaHL => Sys2Proof.Machine.execSlaHL s
  | .slaR8 r => Sys2Proof.Machine.execSlaR8 r s
  | .sraHL => Sys2Proof.Machine.execSraHL s
  | .sraR8 r => Sys2Proof.Machine.execSraR8 r s
  | .srlHL => Sys2Proof.Machine.execSrlHL s
  | .srlR8 r => Sys2Proof.Machine.execSrlR8 r s
  | .stop n => Sys2Proof.Machine.execStop n s
  | .subHL => Sys2Proof.Machine.execSubHL s
  | .subN8 n => Sys2Proof.Machine.execSubN8 n s
  | .subR8 r => Sys2Proof.Machine.execSubR8 r s
  | .swapHL => Sys2Proof.Machine.execSwapHL s
  | .swapR8 r => Sys2Proof.Machine.execSwapR8 r s
  | .xorHL => Sys2Proof.Machine.execXorHL s
  | .xorN8 n => Sys2Proof.Machine.execXorN8 n s
  | .xorR8 r => Sys2Proof.Machine.execXorR8 r s
  | .undefD3 => Sys2Proof.Machine.execUndefD3 s
  | .undefDB => Sys2Proof.Machine.execUndefDB s
  | .undefDD => Sys2Proof.Machine.execUndefDD s
  | .undefE3 => Sys2Proof.Machine.execUndefE3 s
  | .undefE4 => Sys2Proof.Machine.execUndefE4 s
  | .undefEB => Sys2Proof.Machine.execUndefEB s
  | .undefEC => Sys2Proof.Machine.execUndefEC s
  | .undefED => Sys2Proof.Machine.execUndefED s
  | .undefF4 => Sys2Proof.Machine.execUndefF4 s
  | .undefFC => Sys2Proof.Machine.execUndefFC s
  | .undefFD => Sys2Proof.Machine.execUndefFD s

end Sys2Proof.Machine
end

