-- ==== Sys2Proof/Machine/Timing.lean ====
section
/-!
DEFINITION. The machine cycles of every instruction form (70_reset_and_hazards.md R461, R462). No instruction reads
the count (R460).
-/

namespace Sys2Proof.Machine

/-- Clk of an instruction, given the flags before it: a conditional form has one value taken and one not (R462). An
undefined opcode has none (R112). -/
def clkOf (i : Instr) (f : Flags) : Nat :=
  match i with
  | .adcAHL => 2
  | .adcAN8 _ => 2
  | .adcAR8 _ => 1
  | .addAHL => 2
  | .addAN8 _ => 2
  | .addAR8 _ => 1
  | .addHLR16 _ => 2
  | .addSPE8 _ => 4
  | .andHL => 2
  | .andN8 _ => 2
  | .andR8 _ => 1
  | .bitHL _ => 3
  | .bitR8 _ _ => 2
  | .callCC cc _ => if cond f cc then 6 else 3
  | .callN16 _ => 6
  | .ccf => 1
  | .cpHL => 2
  | .cpN8 _ => 2
  | .cpR8 _ => 1
  | .cpl => 1
  | .daa => 1
  | .decHL => 3
  | .decR16 _ => 2
  | .decR8 _ => 1
  | .di => 1
  | .ei => 1
  | .halt => 1
  | .incHL => 3
  | .incR16 _ => 2
  | .incR8 _ => 1
  | .jpHL => 1
  | .jpCC cc _ => if cond f cc then 4 else 3
  | .jpN16 _ => 4
  | .jrCC cc _ => if cond f cc then 3 else 2
  | .jrE8 _ => 3
  | .ldCA => 2
  | .ldHLN8 _ => 3
  | .ldHLR8 _ => 2
  | .ldN16A _ => 4
  | .ldN16SP _ => 5
  | .ldR16A _ => 2
  | .ldAC => 2
  | .ldAN16 _ => 4
  | .ldAR16 _ => 2
  | .ldHLSPE8 _ => 3
  | .ldR16N16 _ _ => 3
  | .ldR8HL _ => 2
  | .ldR8N8 _ _ => 2
  | .ldR8R8 _ _ => 1
  | .ldSPHL => 2
  | .lddHLA => 2
  | .lddAHL => 2
  | .ldhN8A _ => 3
  | .ldhAN8 _ => 3
  | .ldiHLA => 2
  | .ldiAHL => 2
  | .nop => 1
  | .orHL => 2
  | .orN8 _ => 2
  | .orR8 _ => 1
  | .popR16 _ => 3
  | .pushR16 _ => 4
  | .resHL _ => 4
  | .resR8 _ _ => 2
  | .ret => 4
  | .retCC cc => if cond f cc then 5 else 2
  | .reti => 4
  | .rlHL => 4
  | .rlR8 _ => 2
  | .rla => 1
  | .rlcHL => 4
  | .rlcR8 _ => 2
  | .rlca => 1
  | .rrHL => 4
  | .rrR8 _ => 2
  | .rra => 1
  | .rrcHL => 4
  | .rrcR8 _ => 2
  | .rrca => 1
  | .rst _ => 4
  | .sbcAHL => 2
  | .sbcAN8 _ => 2
  | .sbcAR8 _ => 1
  | .scf => 1
  | .setHL _ => 4
  | .setR8 _ _ => 2
  | .slaHL => 4
  | .slaR8 _ => 2
  | .sraHL => 4
  | .sraR8 _ => 2
  | .srlHL => 4
  | .srlR8 _ => 2
  | .stop _ => 1
  | .subHL => 2
  | .subN8 _ => 2
  | .subR8 _ => 1
  | .swapHL => 4
  | .swapR8 _ => 2
  | .xorHL => 2
  | .xorN8 _ => 2
  | .xorR8 _ => 1
  | .undefD3 => 0
  | .undefDB => 0
  | .undefDD => 0
  | .undefE3 => 0
  | .undefE4 => 0
  | .undefEB => 0
  | .undefEC => 0
  | .undefED => 0
  | .undefF4 => 0
  | .undefFC => 0
  | .undefFD => 0

end Sys2Proof.Machine
end

