-- ==== Sys2Proof/Machine/Cycle.lean ====
section
/-!
DEFINITION. The procedure Step (60_exceptions.md R366): what the devices do between steps (R364), leaving STOP and
HALT, interrupt dispatch, one instruction, and EI's delay; and the placing of an instruction where the next step
fetches it.
-/

namespace Sys2Proof.Machine

/-! ### What devices do between steps (R75, R364; log 9) -/

/-- One device event. -/
def deliver (e : DevEvent) (s : State) : State :=
  match e with
  | .request k => s.setIf (s.ifReg ||| k.mask)
  | .joypadLow => s
  | .lcdMode m => s.setLcdMode m
  | .depositVram bank off v => poke (bankKey bank.toNat (0x8000 + off.toNat)) v s
  | .depositOam off v => if off.toNat < 160 then poke (0xFE00 + off.toNat) v s else s
  | .vramDmaEnd => s.setVramDma false
  | .oamDmaEnd => s.setOamDma false
  | .clockTick r v => s.setCart { s.cart with live := s.cart.live.advance r v }

/-- All the events of one step, in order. -/
def deliverAll : List DevEvent → State → State
  | [], s => s
  | e :: rest, s => deliverAll rest (deliver e s)

/-- What the devices do before this step, and whether the joypad event is among it (R366). -/
def deliverInbox (s : State) : Bool × State :=
  match s.inbox with
  | [] => (false, s)
  | es :: rest => (es.contains .joypadLow, deliverAll es (s.setInbox rest))

/-! ### One instruction or one interrupt (R366) -/

/-- Whether an instruction with `ei_delay` set before it ends with IME set: every one but DI (R32, R366); an undefined
opcode changes nothing but mode and pc (R360; log 20). -/
def enablesAfter : Instr → Bool
  | .di => false
  | .undefD3 | .undefDB | .undefDD | .undefE3 | .undefE4 | .undefEB => false
  | .undefEC | .undefED | .undefF4 | .undefFC | .undefFD => false
  | _ => true

/-- After an instruction: its cycles pass, and an EI before it takes effect (R32, R366). -/
def finishInstr (ei0 : Bool) (i : Instr) (n : Nat) (s : State) : State :=
  let t := s.tick n
  if ei0 && enablesAfter i then t.setIme true false else t

/-- Where the out-of-spec marker is set the machine stops; else it goes on (R52, R466; log 15). -/
def unlessOutOfSpec (s : State) : Result := if s.outOfSpec then .refused .unmappedAccess else .next s

/-- Fetch one instruction and execute it (R366). A fetch that set the out-of-spec marker stops the machine before the
instruction, an access of the instruction after it. -/
def runInstr (s : State) : Result :=
  let d := fetchInstr s
  if d.2.outOfSpec then .refused .unmappedAccess
  else match exec d.1 d.2 with
    | .next t => unlessOutOfSpec (finishInstr s.eiDelay d.1 (clkOf d.1 s.regs.f) t)
    | .fault r => .fault r
    | .refused r => .refused r

/-- Take the interrupt k; entry lasts 5 machine cycles (R368, R464). -/
def enterInterrupt (k : Irq) (s : State) : State := (takeInterrupt k s).tick Config.interruptEntryClk

/-- The mode becomes Running, and no access of the step has been made yet. -/
def wake (s : State) : State := (s.setMode .running).setOutOfSpec false

/-- The part of Step after Locked and Stopped: a halted machine stays halted while no enabled request is pending and
wakes whatever IME is; then a pending request is served if IME = 1, else one instruction runs (R366, R367). -/
def serve (s : State) : Result :=
  if s.mode = .halted ∧ pending s = 0 then .next s
  else
    let t := wake s
    match t.ime, firstPending (pending t) with
    | true, some k => unlessOutOfSpec (enterInterrupt k t)
    | _, _ => runInstr t

/-- `Step` (R366). -/
def stepOnce (s : State) : Result :=
  if s.mode = .locked then .next s
  else
    let d := deliverInbox s
    if d.2.mode = .stopped ∧ d.1 = false then .next d.2 else serve d.2

/-! ### Placing an instruction (log 6) -/

/-- The byte at an address, where it selects ROM or RAM, replaced from outside the machine: a cartridge with another
byte there, or RAM loaded beforehand. -/
def loadByte (a : Word) (v : Byte) (s : State) : State :=
  match place s a with
  | .rom k => poke k v s
  | .ram k => poke k v s
  | _ => s

/-- The three bytes from pc on replaced by those of a table word. -/
def loadFetchWord (nbits w : Nat) (s : State) : State :=
  let b := tableBytes nbits w
  let pc := s.regs.pc
  loadByte (pc + 2) b.2.2 (loadByte (pc + 1) b.2.1 (loadByte pc b.1 s))

end Sys2Proof.Machine
end

