-- ==== Sys2Proof/Machine/Step.lean ====
section
/-! DEFINITION. The step function (60_exceptions.md R366, in Machine/Cycle.lean) and the host's way to place an
instruction where the next step fetches it (log 6). -/

namespace Sys2Proof.Machine

/-- One step of the machine (R14, R366). -/
def step (s : State) : Host.Outcome State Fault Refusal := stepOnce s

/-- The state with the instruction of a table word stored where the next step fetches: at pc (log 6). -/
def State.withFetchWord (s : State) (nbits w : Nat) : State := loadFetchWord nbits w s

end Sys2Proof.Machine
end

