-- ==== Sys2Proof/Machine/Run.lean ====
section
/-!
DEFINITION. Runs and their end (00_scope.md R9, 46_system.md R350, decision D31): the parameter `EndOfRun`, the
predicates the spec's own programs use for it, and a run that ends at the first step boundary where it holds.
-/

namespace Sys2Proof.Machine

/-! ### When a run ends (R350) -/

/-- The parameter `EndOfRun` of R9: a predicate on machine states. -/
abbrev EndOfRun := State → Bool

/-- R350 (a): a halted machine that no interrupt can wake, `IE & $1F = 0`. -/
def haltedForGood : EndOfRun := fun s => s.mode == .halted && s.ie.setWidth 5 == (0 : BitVec 5)

/-- R350 (b): pc is the stated address `stop_pc`. -/
def atStopPc (stopPc : Word) : EndOfRun := fun s => s.regs.pc == stopPc

/-- The end of the runs of the spec's own programs: (a) or (b) of R350, an argument to give for `EndOfRun`. -/
def endOfRun (stopPc : Word) : EndOfRun := fun s => haltedForGood s || atStopPc stopPc s

/-- A run has ended: `EndOfRun` holds, and it never holds in a Locked state (R350, R360). -/
def runEnded (e : EndOfRun) (s : State) : Bool := s.mode != .locked && e s

/-! ### Runs (R14, R350, R360, R365) -/

/-- What a run came to. -/
inductive RunResult where
  /-- `EndOfRun` held at this step boundary, the first where it did: a completed run (R350). -/
  | ended (s : State)
  /-- Locked by an undefined opcode: the run stops as a fault and is not completed (R350, R360). -/
  | locked (s : State)
  /-- The step from this state is refused: the run stops and is not completed (R350, R365, R466). -/
  | refused (r : Refusal) (s : State)
  /-- The step from this state faults. There are no faults, so no run comes to this. -/
  | faulted (r : Fault) (s : State)
  /-- Neither, in the number of steps given. -/
  | unfinished (s : State)
deriving DecidableEq, Repr

/-- The run from a state of at most `n` steps, `EndOfRun` being `e`: it ends at the first step boundary where `e` holds
(R350). -/
def run (e : EndOfRun) : Nat → State → RunResult
  | 0, s => if runEnded e s then .ended s else if s.mode = .locked then .locked s else .unfinished s
  | n + 1, s =>
    if runEnded e s then .ended s
    else if s.mode = .locked then .locked s
    else match step s with
      | .next t => run e n t
      | .fault r => .faulted r s
      | .refused r => .refused r s

/-- The arguments of a run: every parameter of R9. `DeviceOracle` is in two parts, the answers of reads in
`Config.oracleByte` and what the devices do before each step here (log 9). -/
structure Setup where
  params : Params
  resetState : ResetState
  devices : List (List DevEvent)
  endOfRun : EndOfRun

/-- The state a run of a setup starts in (R440, R441). -/
def Setup.start (m : Setup) : State := (State.start m.resetState m.params).setInbox m.devices

/-- The run of a setup, of at most `n` steps. -/
def Setup.run (m : Setup) (n : Nat) : RunResult := Machine.run m.endOfRun n m.start

end Sys2Proof.Machine
end

