-- ==== Sys2Proof/Safety.lean ====
section
/-!
DEFINITION. What counts as a safe run, in the terms claims use.
-/

namespace Sys2Proof.Machine

/-- A step that the spec gives a meaning: it neither faults nor is refused (R365). -/
def stepCompletes (s : State) : Prop := ∃ t, step s = .next t

/-- The invariant of the model's own memory: its canonical form. -/
def State.memOk (s : State) : Prop := s.mem.wf = true

end Sys2Proof.Machine
end

