-- ==== Sys2Proof/Certificates/Slice0/Obligations.lean ====
section
/-!
DEFINITION. The statements for the provers. Notation: `(memRead a s).1` and `.2` are the byte a read answers and the
state after it; `peek s a` is the byte an address shows where it is plain memory the CPU can reach.
-/

open Sys2Proof Sys2Proof.Machine

/-! ### Encoding -/

/-- Every well-formed instruction, with every operand, is what its own encoding decodes to, whatever bytes follow
(R90, R91, R94 to R107, R119). -/
def Obligations.DecodeOfEncode : Prop :=
  ∀ (i : Instr) (rest : List Byte), WellFormed i = true → decode (encode i ++ rest) = .ok (i, rest)

/-- Whatever decodes is well-formed, and its encoding is the bytes it was read from: no bit of an instruction is
dropped and no two byte sequences mean the same instruction (R90, R106, R107). -/
def Obligations.EncodeOfDecode : Prop :=
  ∀ (bytes : List Byte) (i : Instr) (rest : List Byte),
    decode bytes = .ok (i, rest) → WellFormed i = true ∧ encode i ++ rest = bytes

/-- Words written out from the spec's own examples decode to the instruction each stands for: R131, R139, R164, R170,
R171, R182, R194, R241, R265, R282, R315, R316, R320, R326, R344, R346. -/
def Obligations.ExampleWordsDecode : Prop :=
  decodeBytes 0x36 0x5A 0x00 = .ldHLN8 0x5A ∧ decodeBytes 0x47 0x00 0x00 = .ldR8R8 .b .a ∧
  decodeBytes 0x21 0x34 0x12 = .ldR16N16 .hl 0x1234 ∧ decodeBytes 0xF1 0x00 0x00 = .popR16 .af ∧
  decodeBytes 0xC5 0x00 0x00 = .pushR16 .bc ∧ decodeBytes 0x88 0x00 0x00 = .adcAR8 .b ∧
  decodeBytes 0x27 0x00 0x00 = .daa ∧ decodeBytes 0x29 0x00 0x00 = .addHLR16 .hl ∧
  decodeBytes 0xCB 0x16 0x00 = .rlHL ∧ decodeBytes 0xCB 0x65 0x00 = .bitR8 4 .l ∧
  decodeBytes 0xC3 0x50 0x01 = .jpN16 0x0150 ∧ decodeBytes 0x20 0xFA 0x00 = .jrCC .nz 0xFA ∧
  decodeBytes 0xD9 0x00 0x00 = .reti ∧ decodeBytes 0xEF 0x00 0x00 = .rst 0x28 ∧
  decodeBytes 0x76 0x00 0x00 = .halt ∧ decodeBytes 0x10 0x00 0x00 = .stop 0x00

/-- The eleven values of byte 0 that spell no instruction, and no other, decode to an undefined opcode (R112). -/
def Obligations.UndefinedOpcodesAreEleven : Prop :=
  ∀ b0 b1 b2 : Byte,
    decodeBytes b0 b1 b2 ∈ [Instr.undefD3, .undefDB, .undefDD, .undefE3, .undefE4, .undefEB, .undefEC, .undefED,
      .undefF4, .undefFC, .undefFD] ↔
    b0 ∈ [(0xD3 : Byte), 0xDB, 0xDD, 0xE3, 0xE4, 0xEB, 0xEC, 0xED, 0xF4, 0xFC, 0xFD]

/-! ### 8-bit arithmetic and logic -/

/-- ADD and ADC in every form: A becomes a + v + cin modulo 2^8, Z says the result is zero, N is cleared, H is the
carry out of bit 3 and C out of bit 7 (R214); cin is 0 for ADD and the old carry for ADC. Nothing else changes. -/
def Obligations.AddAndAdcResults : Prop :=
  let after : State → Byte → Bool → Regs := fun s v cin =>
    { s.regs with
      a := s.regs.a + v + (if cin then 1 else 0)
      f := { z := decide (s.regs.a + v + (if cin then 1 else 0) = 0)
             n := false
             h := decide (s.regs.a.toNat % 16 + v.toNat % 16 + cin.toNat > 15)
             c := decide (s.regs.a.toNat + v.toNat + cin.toNat > 255) } }
  ∀ s : State,
    (∀ n, exec (.addAN8 n) s = .next (s.setRegs (after s n false))) ∧
    (∀ q, exec (.addAR8 q) s = .next (s.setRegs (after s (s.regs.get8 q) false))) ∧
    exec .addAHL s = .next ((memRead s.hl s).2.setRegs (after s (memRead s.hl s).1 false)) ∧
    (∀ n, exec (.adcAN8 n) s = .next (s.setRegs (after s n s.regs.f.c))) ∧
    (∀ q, exec (.adcAR8 q) s = .next (s.setRegs (after s (s.regs.get8 q) s.regs.f.c))) ∧
    exec .adcAHL s = .next ((memRead s.hl s).2.setRegs (after s (memRead s.hl s).1 s.regs.f.c))

/-- SUB, SBC and CP in every form: the difference a - v - cin modulo 2^8, Z from it, N set, H the borrow from bit 4
and C the borrow from bit 8 (R215); CP writes the flags of the difference and not A. Nothing else changes. -/
def Obligations.SubSbcAndCpResults : Prop :=
  let diff : State → Byte → Bool → Byte := fun s v cin => s.regs.a - v - (if cin then 1 else 0)
  let flags : State → Byte → Bool → Flags := fun s v cin =>
    { z := decide (diff s v cin = 0)
      n := true
      h := decide (s.regs.a.toNat % 16 < v.toNat % 16 + cin.toNat)
      c := decide (s.regs.a.toNat < v.toNat + cin.toNat) }
  let after : State → Byte → Bool → Regs := fun s v cin =>
    { s.regs with a := diff s v cin, f := flags s v cin }
  ∀ s : State,
    (∀ n, exec (.subN8 n) s = .next (s.setRegs (after s n false))) ∧
    (∀ q, exec (.subR8 q) s = .next (s.setRegs (after s (s.regs.get8 q) false))) ∧
    exec .subHL s = .next ((memRead s.hl s).2.setRegs (after s (memRead s.hl s).1 false)) ∧
    (∀ n, exec (.sbcAN8 n) s = .next (s.setRegs (after s n s.regs.f.c))) ∧
    (∀ q, exec (.sbcAR8 q) s = .next (s.setRegs (after s (s.regs.get8 q) s.regs.f.c))) ∧
    exec .sbcAHL s = .next ((memRead s.hl s).2.setRegs (after s (memRead s.hl s).1 s.regs.f.c)) ∧
    (∀ n, exec (.cpN8 n) s = .next (s.setRegs { s.regs with f := flags s n false })) ∧
    (∀ q, exec (.cpR8 q) s = .next (s.setRegs { s.regs with f := flags s (s.regs.get8 q) false })) ∧
    exec .cpHL s =
      .next ((memRead s.hl s).2.setRegs { s.regs with f := flags s (memRead s.hl s).1 false })

/-- After CP x, for x an immediate, a register or the byte at HL, the flags order A against x: Z says equal and C says
smaller, unsigned (R190, R191, R192, R215, R328). -/
def Obligations.CompareOrdersUnsigned : Prop :=
  let orders : State → Byte → State → Prop := fun s x t =>
    (t.regs.f.z = true ↔ s.regs.a.toNat = x.toNat) ∧ (t.regs.f.c = true ↔ s.regs.a.toNat < x.toNat)
  ∀ s : State,
    (∀ n, ∃ t, exec (.cpN8 n) s = .next t ∧ orders s n t) ∧
    (∀ q, ∃ t, exec (.cpR8 q) s = .next t ∧ orders s (s.regs.get8 q) t) ∧
    (∃ t, exec .cpHL s = .next t ∧ orders s (memRead s.hl s).1 t)

/-- AND, OR and XOR in every form: A bit by bit, Z from the result, N and C cleared, H set by AND and cleared by OR
and XOR (R216). Nothing else changes. -/
def Obligations.LogicResults : Prop :=
  let after : State → Byte → Bool → Regs := fun s r h =>
    { s.regs with a := r, f := { z := decide (r = 0), n := false, h := h, c := false } }
  ∀ s : State,
    (∀ n, exec (.andN8 n) s = .next (s.setRegs (after s (s.regs.a &&& n) true))) ∧
    (∀ q, exec (.andR8 q) s = .next (s.setRegs (after s (s.regs.a &&& s.regs.get8 q) true))) ∧
    exec .andHL s =
      .next ((memRead s.hl s).2.setRegs (after s (s.regs.a &&& (memRead s.hl s).1) true)) ∧
    (∀ n, exec (.orN8 n) s = .next (s.setRegs (after s (s.regs.a ||| n) false))) ∧
    (∀ q, exec (.orR8 q) s = .next (s.setRegs (after s (s.regs.a ||| s.regs.get8 q) false))) ∧
    exec .orHL s =
      .next ((memRead s.hl s).2.setRegs (after s (s.regs.a ||| (memRead s.hl s).1) false)) ∧
    (∀ n, exec (.xorN8 n) s = .next (s.setRegs (after s (s.regs.a ^^^ n) false))) ∧
    (∀ q, exec (.xorR8 q) s = .next (s.setRegs (after s (s.regs.a ^^^ s.regs.get8 q) false))) ∧
    exec .xorHL s =
      .next ((memRead s.hl s).2.setRegs (after s (s.regs.a ^^^ (memRead s.hl s).1) false))

/-- INC and DEC of a register and of the byte at HL: the value plus or minus one modulo 2^8, Z from it, N, H when the
low nibble was $F or $0, C kept (R217). The (HL) forms read once and write back to the same address. -/
def Obligations.IncAndDecResults : Prop :=
  let incF : Byte → Flags → Flags := fun v f =>
    { z := decide (v = 0xFF), n := false, h := decide (v.toNat % 16 = 15), c := f.c }
  let decF : Byte → Flags → Flags := fun v f =>
    { z := decide (v = 0x01), n := true, h := decide (v.toNat % 16 = 0), c := f.c }
  ∀ s : State,
    (∀ q, exec (.incR8 q) s = .next (s.setRegs
      { s.regs.set8 q (s.regs.get8 q + 1) with f := incF (s.regs.get8 q) s.regs.f })) ∧
    (∀ q, exec (.decR8 q) s = .next (s.setRegs
      { s.regs.set8 q (s.regs.get8 q - 1) with f := decF (s.regs.get8 q) s.regs.f })) ∧
    exec .incHL s = .next ((memWrite s.hl ((memRead s.hl s).1 + 1) (memRead s.hl s).2).setRegs
      { s.regs with f := incF (memRead s.hl s).1 s.regs.f }) ∧
    exec .decHL s = .next ((memWrite s.hl ((memRead s.hl s).1 - 1) (memRead s.hl s).2).setRegs
      { s.regs with f := decF (memRead s.hl s).1 s.regs.f })

/-- CCF, SCF and CPL write exactly the flags their rules name, and CPL complements A (R189, R193, R206). -/
def Obligations.CarryAndComplementResults : Prop :=
  ∀ s : State,
    exec .ccf s = .next (s.setRegs
      { s.regs with f := { z := s.regs.f.z, n := false, h := false, c := !s.regs.f.c } }) ∧
    exec .scf s = .next (s.setRegs
      { s.regs with f := { z := s.regs.f.z, n := false, h := false, c := true } }) ∧
    exec .cpl s = .next (s.setRegs
      { s.regs with a := ~~~s.regs.a, f := { z := s.regs.f.z, n := true, h := true, c := s.regs.f.c } })

/-- DAA: the two-branch algorithm of R194, on every A and every N, H and C. -/
def Obligations.DaaResult : Prop :=
  ∀ s : State,
    let a := s.regs.a
    let f := s.regs.f
    let low : Byte := if f.h = true ∨ (f.n = false ∧ a.toNat % 16 > 9) then 0x06 else 0
    let high : Byte := if f.c = true ∨ (f.n = false ∧ a.toNat > 0x99) then 0x60 else 0
    let r := if f.n = true then a - (low + high) else a + (low + high)
    exec .daa s = .next (s.setRegs
      { s.regs with a := r, f := { z := decide (r = 0), n := f.n, h := false, c := decide (high = 0x60) } })

/-- After ADD A,n8 of two packed two-digit decimals, DAA leaves the packed decimal of their sum modulo 100, with C
set when the sum is 100 or more ("Decimal adjust A (after add/sub of BCD data)"). -/
def Obligations.DaaAfterDecimalAdd : Prop :=
  ∀ (s : State) (x1 x0 y1 y0 : Fin 10),
    s.regs.a = BitVec.ofNat 8 (16 * x1.val + x0.val) →
    ∃ t u, exec (.addAN8 (BitVec.ofNat 8 (16 * y1.val + y0.val))) s = .next t ∧ exec .daa t = .next u ∧
      (let sum := 10 * x1.val + x0.val + (10 * y1.val + y0.val)
       u.regs.a = BitVec.ofNat 8 (16 * (sum % 100 / 10) + sum % 10) ∧
         (u.regs.f.c = true ↔ sum ≥ 100))

/-! ### 16-bit arithmetic -/

/-- ADD HL,r16: the sum modulo 2^16, N cleared, H the carry out of bit 11, C out of bit 15, Z kept, or from the result
under ADDHL_Z_FROM_SOURCE (R241). Nothing else changes. -/
def Obligations.AddHlResult : Prop :=
  ∀ (s : State) (p : R16),
    let a := s.regs.get16 .hl
    let b := s.regs.get16 p
    exec (.addHLR16 p) s = .next (s.setRegs
      { s.regs.set16 .hl (a + b) with
        f := { z := if s.cfg.addhlZFromSource then decide (a + b = 0) else s.regs.f.z
               n := false
               h := decide (a.toNat % 4096 + b.toNat % 4096 > 4095)
               c := decide (a.toNat + b.toNat > 65535) } })

/-- ADD SP,e8 and LD HL,SP+e8: SP plus the sign-extended byte, Z and N cleared, H and C the carries out of bits 3 and
7 of the unsigned sum of SP's low byte and the byte (R163, R242). Nothing else changes. -/
def Obligations.StackPointerSumResults : Prop :=
  let flags : Word → Byte → Flags := fun sp e =>
    { z := false, n := false, h := decide (sp.toNat % 16 + e.toNat % 16 > 15)
      c := decide (sp.toNat % 256 + e.toNat > 255) }
  ∀ (s : State) (e : Byte),
    exec (.addSPE8 e) s = .next (s.setRegs
      { s.regs with sp := s.regs.sp + e.signExtend 16, f := flags s.regs.sp e }) ∧
    exec (.ldHLSPE8 e) s = .next (s.setRegs
      { s.regs.set16 .hl (s.regs.sp + e.signExtend 16) with f := flags s.regs.sp e })

/-- INC r16 and DEC r16 add or subtract one modulo 2^16 and touch no flag (R243, R244). -/
def Obligations.IncAndDec16Results : Prop :=
  ∀ (s : State) (p : R16),
    exec (.incR16 p) s = .next (s.setRegs (s.regs.set16 p (s.regs.get16 p + 1))) ∧
    exec (.decR16 p) s = .next (s.setRegs (s.regs.set16 p (s.regs.get16 p - 1)))

/-! ### Rotates, shifts and bits -/

/-- The eight $CB-page operations on a register and on the byte at HL, each as its row of R260 pictures it: the
result, C as the bit moved out, Z from the result, N and H cleared; the (HL) forms read once and write back to the same
address. -/
def Obligations.RotateAndShiftResults : Prop :=
  let res : RotOp → Byte → Bool → Byte × Bool := fun op v cin =>
    match op with
    | .rlc => (v.rotateLeft 1, v.getLsbD 7)
    | .rrc => (v.rotateRight 1, v.getLsbD 0)
    | .rl => (v + v + (if cin then 1 else 0), v.getLsbD 7)
    | .rr => (BitVec.ofNat 8 (v.toNat / 2 + 128 * cin.toNat), v.getLsbD 0)
    | .sla => (v + v, v.getLsbD 7)
    | .sra => (v.sshiftRight 1, v.getLsbD 0)
    | .srl => (BitVec.ofNat 8 (v.toNat / 2), v.getLsbD 0)
    | .swap => (v.rotateLeft 4, false)
  let flags : Byte × Bool → Flags := fun d => { z := decide (d.1 = 0), n := false, h := false, c := d.2 }
  let onR : State → RotOp → R8 → Regs := fun s op q =>
    let d := res op (s.regs.get8 q) s.regs.f.c
    { s.regs.set8 q d.1 with f := flags d }
  let onHL : State → RotOp → State := fun s op =>
    let d := res op (memRead s.hl s).1 s.regs.f.c
    (memWrite s.hl d.1 (memRead s.hl s).2).setRegs { s.regs with f := flags d }
  ∀ (s : State) (q : R8),
    exec (.rlcR8 q) s = .next (s.setRegs (onR s .rlc q)) ∧ exec .rlcHL s = .next (onHL s .rlc) ∧
    exec (.rrcR8 q) s = .next (s.setRegs (onR s .rrc q)) ∧ exec .rrcHL s = .next (onHL s .rrc) ∧
    exec (.rlR8 q) s = .next (s.setRegs (onR s .rl q)) ∧ exec .rlHL s = .next (onHL s .rl) ∧
    exec (.rrR8 q) s = .next (s.setRegs (onR s .rr q)) ∧ exec .rrHL s = .next (onHL s .rr) ∧
    exec (.slaR8 q) s = .next (s.setRegs (onR s .sla q)) ∧ exec .slaHL s = .next (onHL s .sla) ∧
    exec (.sraR8 q) s = .next (s.setRegs (onR s .sra q)) ∧ exec .sraHL s = .next (onHL s .sra) ∧
    exec (.srlR8 q) s = .next (s.setRegs (onR s .srl q)) ∧ exec .srlHL s = .next (onHL s .srl) ∧
    exec (.swapR8 q) s = .next (s.setRegs (onR s .swap q)) ∧ exec .swapHL s = .next (onHL s .swap)

/-- RLCA, RRCA, RLA and RRA: A rotated, C the bit moved out, N and H cleared, Z cleared, or from the result under
ROTA_Z_FROM_SOURCE (R261 to R264). Nothing else changes. -/
def Obligations.AccumulatorRotateResults : Prop :=
  ∀ s : State,
    let a := s.regs.a
    let after : Byte → Bool → Regs := fun r c =>
      { s.regs with a := r, f := { z := s.cfg.rotaZFromSource && decide (r = 0), n := false, h := false, c := c } }
    exec .rlca s = .next (s.setRegs (after (a.rotateLeft 1) (a.getLsbD 7))) ∧
    exec .rrca s = .next (s.setRegs (after (a.rotateRight 1) (a.getLsbD 0))) ∧
    exec .rla s = .next (s.setRegs (after (a + a + (if s.regs.f.c then 1 else 0)) (a.getLsbD 7))) ∧
    exec .rra s = .next (s.setRegs
      (after (BitVec.ofNat 8 (a.toNat / 2 + 128 * s.regs.f.c.toNat)) (a.getLsbD 0)))

/-- BIT sets Z to the complement of the tested bit, clears N, sets H, keeps C, and writes neither register nor memory
(R281, R282). -/
def Obligations.BitTestResults : Prop :=
  let flags : BitVec 3 → Byte → Flags → Flags := fun b v f =>
    { z := !v.getLsbD b.toNat, n := false, h := true, c := f.c }
  ∀ (s : State) (b : BitVec 3),
    (∀ q, exec (.bitR8 b q) s = .next (s.setRegs
      { s.regs with f := flags b (s.regs.get8 q) s.regs.f })) ∧
    exec (.bitHL b) s = .next ((memRead s.hl s).2.setRegs
      { s.regs with f := flags b (memRead s.hl s).1 s.regs.f })

/-- RES clears and SET sets exactly the named bit, of a register or of the byte at HL, and touch no flag (R283 to
R286). -/
def Obligations.ResAndSetResults : Prop :=
  ∀ (s : State) (b : BitVec 3),
    ∃ clr set : Byte → Byte,
      (∀ v i, i < 8 → (clr v).getLsbD i = (v.getLsbD i && decide (i ≠ b.toNat))) ∧
      (∀ v i, i < 8 → (set v).getLsbD i = (v.getLsbD i || decide (i = b.toNat))) ∧
      (∀ q, exec (.resR8 b q) s = .next (s.setRegs (s.regs.set8 q (clr (s.regs.get8 q))))) ∧
      (∀ q, exec (.setR8 b q) s = .next (s.setRegs (s.regs.set8 q (set (s.regs.get8 q))))) ∧
      exec (.resHL b) s = .next (memWrite s.hl (clr (memRead s.hl s).1) (memRead s.hl s).2) ∧
      exec (.setHL b) s = .next (memWrite s.hl (set (memRead s.hl s).1) (memRead s.hl s).2)

/-! ### Loads, stores and the stack -/

/-- The loads between registers and of immediates write their destination and nothing else (R138, R139, R164,
R165). -/
def Obligations.RegisterLoadResults : Prop :=
  ∀ s : State,
    (∀ dst q, exec (.ldR8R8 dst q) s = .next (s.setRegs (s.regs.set8 dst (s.regs.get8 q)))) ∧
    (∀ dst n, exec (.ldR8N8 dst n) s = .next (s.setRegs (s.regs.set8 dst n))) ∧
    (∀ p n, exec (.ldR16N16 p n) s = .next (s.setRegs (s.regs.set16 p n))) ∧
    exec .ldSPHL s = .next (s.setRegs { s.regs with sp := s.regs.get16 .hl })

/-- The loads from memory read one byte at the address their rule names and write their destination, LDI and LDD also
HL (R135 to R137, R141, R143, R145, R147). -/
def Obligations.MemoryLoadResults : Prop :=
  let loadA : State → Word → State := fun s a => (memRead a s).2.setRegs { s.regs with a := (memRead a s).1 }
  ∀ s : State,
    (∀ a, exec (.ldAN16 a) s = .next (loadA s a)) ∧
    exec (.ldAR16 .bc) s = .next (loadA s (s.regs.get16 .bc)) ∧
    exec (.ldAR16 .de) s = .next (loadA s (s.regs.get16 .de)) ∧
    exec .ldAC s = .next (loadA s (0xFF00 + s.regs.c.setWidth 16)) ∧
    (∀ n, exec (.ldhAN8 n) s = .next (loadA s (0xFF00 + n.setWidth 16))) ∧
    (∀ dst, exec (.ldR8HL dst) s =
      .next ((memRead s.hl s).2.setRegs (s.regs.set8 dst (memRead s.hl s).1))) ∧
    exec .ldiAHL s = .next ((memRead s.hl s).2.setRegs
      { s.regs.set16 .hl (s.regs.get16 .hl + 1) with a := (memRead s.hl s).1 }) ∧
    exec .lddAHL s = .next ((memRead s.hl s).2.setRegs
      { s.regs.set16 .hl (s.regs.get16 .hl - 1) with a := (memRead s.hl s).1 })

/-- The stores write one byte at the address their rule names, LDI and LDD then step HL, LD (n16),SP writes SP's low
byte and then its high byte (R131 to R134, R140, R142, R144, R146, R161). -/
def Obligations.StoreResults : Prop :=
  ∀ s : State,
    (∀ n, exec (.ldHLN8 n) s = .next (memWrite (s.regs.get16 .hl) n s)) ∧
    (∀ q, exec (.ldHLR8 q) s = .next (memWrite (s.regs.get16 .hl) (s.regs.get8 q) s)) ∧
    (∀ a, exec (.ldN16A a) s = .next (memWrite a s.regs.a s)) ∧
    exec (.ldR16A .bc) s = .next (memWrite (s.regs.get16 .bc) s.regs.a s) ∧
    exec (.ldR16A .de) s = .next (memWrite (s.regs.get16 .de) s.regs.a s) ∧
    exec .ldCA s = .next (memWrite (0xFF00 + s.regs.c.setWidth 16) s.regs.a s) ∧
    (∀ n, exec (.ldhN8A n) s = .next (memWrite (0xFF00 + n.setWidth 16) s.regs.a s)) ∧
    exec .ldiHLA s = .next ((memWrite s.hl s.regs.a s).setRegs (s.regs.set16 .hl (s.regs.get16 .hl + 1))) ∧
    exec .lddHLA s = .next ((memWrite s.hl s.regs.a s).setRegs (s.regs.set16 .hl (s.regs.get16 .hl - 1))) ∧
    (∀ a, exec (.ldN16SP a) s =
      .next (memWrite (a + 1) (hi8 s.regs.sp) (memWrite a (lo8 s.regs.sp) s)))

/-- Where a store instruction's address selects RAM the CPU can reach, that byte becomes the value stored and every
other address shows what it showed (R71, R76): stated of each one-byte store at the address it stores to, and of each
read-modify-write form at HL, where every other address shows what it showed. -/
def Obligations.StoreFrame : Prop :=
  let lands : State → Word → Byte → State → Prop := fun s a v t =>
    (∃ k, place s a = .ram k) → dmaHides s a = false →
      ∀ b, peek t b = if b = a then some v else peek s b
  ∀ s : State,
    (∀ n t, exec (.ldHLN8 n) s = .next t → lands s s.hl n t) ∧
    (∀ q t, exec (.ldHLR8 q) s = .next t → lands s s.hl (s.regs.get8 q) t) ∧
    (∀ a t, exec (.ldN16A a) s = .next t → lands s a s.regs.a t) ∧
    (∀ p t, exec (.ldR16A p) s = .next t → lands s (s.addrR16Mem p) s.regs.a t) ∧
    (∀ t, exec .ldCA s = .next t → lands s (highPage s.regs.c) s.regs.a t) ∧
    (∀ n t, exec (.ldhN8A n) s = .next t → lands s (highPage n) s.regs.a t) ∧
    (∀ t, exec .ldiHLA s = .next t → lands s s.hl s.regs.a t) ∧
    (∀ t, exec .lddHLA s = .next t → lands s s.hl s.regs.a t) ∧
    (∀ (b : BitVec 3) (i : Instr) (t : State),
      i ∈ [Instr.incHL, .decHL, .rlcHL, .rrcHL, .rlHL, .rrHL, .slaHL, .sraHL, .srlHL, .swapHL, .resHL b, .setHL b] →
      exec i s = .next t → (∃ k, place s s.hl = .ram k) → dmaHides s s.hl = false →
      ∀ c, c ≠ s.hl → peek t c = peek s c)

/-- The instructions that store a word: where both addresses select RAM the CPU can reach, the two bytes become the
word's, the low byte at the lower address, and every other address shows what it showed. LD (n16),SP stores SP at n16
and n16 + 1; PUSH the pair, CALL and RST the next instruction's address, at SP - 2 and SP - 1 (R56, R71, R72, R74,
R161, R171, R312, R326). -/
def Obligations.WordStoreFrame : Prop :=
  let lands : State → Word → Word → State → Prop := fun s a v t =>
    (∃ k, place s a = .ram k) → (∃ k, place s (a + 1) = .ram k) → dmaHides s a = false →
      dmaHides s (a + 1) = false →
      ∀ b, peek t b = if b = a then some (lo8 v) else if b = a + 1 then some (hi8 v) else peek s b
  ∀ s : State,
    (∀ a t, exec (.ldN16SP a) s = .next t → lands s a s.regs.sp t) ∧
    (∀ p t, exec (.pushR16 p) s = .next t → lands s (s.regs.sp - 2) (s.regs.get16Stk p) t) ∧
    (∀ a t, exec (.callN16 a) s = .next t → lands s (s.regs.sp - 2) s.regs.pc t) ∧
    (∀ cc a t, exec (.callCC cc a) s = .next t → cond s.regs.f cc = true → lands s (s.regs.sp - 2) s.regs.pc t) ∧
    (∀ f t, exec (.rst f) s = .next t → lands s (s.regs.sp - 2) s.regs.pc t)

/-- PUSH subtracts 2 from SP and stores the pair's high byte at SP - 1 and then its low byte at SP - 2; POP takes the
low byte at SP and the high byte at SP + 1 into the pair and adds 2 to SP; POP AF drops bits 3 to 0 of the byte popped
into F and PUSH AF stores them as zero (R74, R170, R171, R27). -/
def Obligations.PushAndPopResults : Prop :=
  ∀ s : State,
    (∀ p, exec (.pushR16 p) s = .next
      ((memWrite (s.regs.sp - 2) (lo8 (s.regs.get16Stk p))
        (memWrite (s.regs.sp - 1) (hi8 (s.regs.get16Stk p)) s)).setRegs { s.regs with sp := s.regs.sp - 2 })) ∧
    (∀ p,
      let lo := memRead s.regs.sp s
      let hi := memRead (s.regs.sp + 1) lo.2
      exec (.popR16 p) s = .next (hi.2.setRegs { s.regs.set16Stk p (pair16 hi.1 lo.1) with sp := s.regs.sp + 2 })) ∧
    (lo8 (s.regs.get16Stk .af) &&& 0x0F = 0) ∧
    (∀ v : Word, (s.regs.set16Stk .af v).get16Stk .af = v &&& 0xFFF0)

/-- With the stack in RAM the CPU can reach, PUSH of one pair and POP of another copies the pair and leaves SP and
every other byte of memory as they were ("PUSH followed by POP of another pair copies a pair", R171). -/
def Obligations.PushThenPopCopiesPair : Prop :=
  ∀ (s : State) (p q : R16Stk) (k j : Nat),
    place s (s.regs.sp - 1) = .ram k → place s (s.regs.sp - 2) = .ram j →
    dmaHides s (s.regs.sp - 1) = false → dmaHides s (s.regs.sp - 2) = false →
    ∃ t u, exec (.pushR16 p) s = .next t ∧ exec (.popR16 q) t = .next u ∧
      u.regs = s.regs.set16Stk q (s.regs.get16Stk p) ∧
      ∀ b, b ≠ s.regs.sp - 1 → b ≠ s.regs.sp - 2 → peek u b = peek s b

/-! ### Control flow -/

/-- The jumps: pc becomes the target, relative to the next instruction for JR, when the condition holds, and the
conditional forms change nothing when it does not (R97, R310, R313 to R317). -/
def Obligations.JumpResults : Prop :=
  let holds : Cond → Flags → Bool := fun cc f =>
    match cc with
    | .nz => !f.z
    | .z => f.z
    | .nc => !f.c
    | .c => f.c
  ∀ s : State,
    (∀ a, exec (.jpN16 a) s = .next (s.setRegs { s.regs with pc := a })) ∧
    exec .jpHL s = .next (s.setRegs { s.regs with pc := s.regs.get16 .hl }) ∧
    (∀ e, exec (.jrE8 e) s = .next (s.setRegs { s.regs with pc := s.regs.pc + e.signExtend 16 })) ∧
    (∀ cc a, exec (.jpCC cc a) s =
      .next (if holds cc s.regs.f = true then s.setRegs { s.regs with pc := a } else s)) ∧
    (∀ cc e, exec (.jrCC cc e) s =
      .next (if holds cc s.regs.f = true then s.setRegs { s.regs with pc := s.regs.pc + e.signExtend 16 }
        else s))

/-- CALL, CALL cc and RST push the address of the next instruction, high byte at SP - 1 and low byte at SP - 2, and
jump; an untaken CALL changes nothing (R311, R312, R326). -/
def Obligations.CallResults : Prop :=
  let called : State → Word → State := fun s a =>
    (memWrite (s.regs.sp - 2) (lo8 s.regs.pc) (memWrite (s.regs.sp - 1) (hi8 s.regs.pc) s)).setRegs
      { s.regs with sp := s.regs.sp - 2, pc := a }
  ∀ s : State,
    (∀ a, exec (.callN16 a) s = .next (called s a)) ∧
    (∀ cc a, exec (.callCC cc a) s = .next (if cond s.regs.f cc = true then called s a else s)) ∧
    (∀ f, exec (.rst f) s = .next (called s (f.setWidth 16)))

/-- RET, RET cc and RETI pop pc, low byte at SP, and add 2 to SP; RETI sets IME at once and clears ei_delay; an
untaken RET changes nothing (R318 to R320). -/
def Obligations.ReturnResults : Prop :=
  let returned : State → State := fun s =>
    let lo := memRead s.regs.sp s
    let hi := memRead (s.regs.sp + 1) lo.2
    hi.2.setRegs { s.regs with pc := pair16 hi.1 lo.1, sp := s.regs.sp + 2 }
  ∀ s : State,
    exec .ret s = .next (returned s) ∧
    (∀ cc, exec (.retCC cc) s = .next (if cond s.regs.f cc = true then returned s else s)) ∧
    exec .reti s = .next { returned s with ime := true, eiDelay := false }

/-- With the stack in RAM the CPU can reach, RET straight after CALL comes back to the instruction after the CALL with
every register as it was, and no byte outside the two stack bytes changes (R312, R318, R327). -/
def Obligations.CallThenReturn : Prop :=
  ∀ (s : State) (a : Word) (k j : Nat),
    place s (s.regs.sp - 1) = .ram k → place s (s.regs.sp - 2) = .ram j →
    dmaHides s (s.regs.sp - 1) = false → dmaHides s (s.regs.sp - 2) = false →
    ∃ t u, exec (.callN16 a) s = .next t ∧ t.regs.pc = a ∧ exec .ret t = .next u ∧ u.regs = s.regs ∧
      ∀ b, b ≠ s.regs.sp - 1 → b ≠ s.regs.sp - 2 → peek u b = peek s b

/-! ### System instructions -/

/-- NOP changes nothing; DI clears IME and ei_delay; EI sets ei_delay where IME = 0 and changes nothing where
IME = 1 (R341, R342, R345). -/
def Obligations.NopDiAndEiResults : Prop :=
  ∀ s : State,
    exec .nop s = .next s ∧
    exec .di s = .next { s with ime := false, eiDelay := false } ∧
    (s.ime = false → exec .ei s = .next { s with eiDelay := true }) ∧
    (s.ime = true → exec .ei s = .next s)

/-- HALT stops fetching unless IME = 0 and an enabled request is pending, the one case that is refused (R344, R365). -/
def Obligations.HaltCompletesOrIsRefused : Prop :=
  ∀ s : State,
    ((s.ime = true ∨ s.ifReg &&& s.ie.setWidth 5 = 0) → exec .halt s = .next { s with mode := .halted }) ∧
    (s.ime = false → s.ifReg &&& s.ie.setWidth 5 ≠ 0 → exec .halt s = .refused .haltPending)

/-- STOP: the speed switch on CGB with KEY1 bit 0 set, which changes KEY1 only; otherwise the mode Stopped without an
enabled request pending, and the refusal with one; the second byte does not matter (R113, R346, R400). -/
def Obligations.StopCompletesOrIsRefused : Prop :=
  ∀ (s : State) (n : Byte),
    (s.cfg.variant = .cgb → s.key1.prepare = true →
      exec (.stop n) s = .next { s with key1 := { speed := !s.key1.speed, prepare := false } }) ∧
    ((s.cfg.variant = .dmg ∨ s.key1.prepare = false) → s.ifReg &&& s.ie.setWidth 5 = 0 →
      exec (.stop n) s = .next { s with mode := .stopped }) ∧
    ((s.cfg.variant = .dmg ∨ s.key1.prepare = false) → s.ifReg &&& s.ie.setWidth 5 ≠ 0 →
      exec (.stop n) s = .refused .stopPending)

/-- Each of the eleven undefined opcodes sets the mode to Locked and changes nothing else; a locked machine stays
exactly as it is, and whatever predicate EndOfRun is, a run that reaches it is not completed (R112, R350, R360,
R366). -/
def Obligations.UndefinedOpcodesLock : Prop :=
  (∀ (s : State) (i : Instr),
    i ∈ [Instr.undefD3, .undefDB, .undefDD, .undefE3, .undefE4, .undefEB, .undefEC, .undefED, .undefF4, .undefFC,
      .undefFD] → exec i s = .next { s with mode := .locked }) ∧
  (∀ s : State, s.mode = .locked → step s = .next s) ∧
  (∀ (e : EndOfRun) (n : Nat) (s : State), s.mode = .locked → run e n s = .locked s)

/-! ### The step -/

/-- A step runs the instruction at pc. The machine runs; d is the machine after what the devices do before the step, no
interrupt is due in d, and the instruction's bytes at pc are plain memory. Then the step is `exec` of the decoded
instruction at d with pc moved past its bytes; IME is set afterwards if ei_delay was and the instruction is not DI (R14,
R73, R366). The model's choices in it: the counter clk has advanced by the Clk of the table of R462, an undefined opcode
by 0 (log 23); an undefined opcode after EI leaves IME alone (log 20); where an access of the instruction set the
out-of-spec marker, which only UNMAPPED_ACCESS = refuse does, the step is refused (log 15). -/
def Obligations.StepRunsDecodedInstruction : Prop :=
  let holds : Cond → Flags → Bool := fun cc f =>
    match cc with
    | .nz => !f.z
    | .z => f.z
    | .nc => !f.c
    | .c => f.c
  let clk : Instr → Flags → Nat := fun i f =>
    match i with
    | .adcAR8 _ | .addAR8 _ | .andR8 _ | .cpR8 _ | .orR8 _ | .sbcAR8 _ | .subR8 _ | .xorR8 _ | .ccf | .cpl | .daa
    | .decR8 _ | .incR8 _ | .di | .ei | .halt | .nop | .stop _ | .jpHL | .ldR8R8 _ _ | .rlca | .rla | .rrca | .rra
    | .scf => 1
    | .adcAHL | .adcAN8 _ | .addAHL | .addAN8 _ | .andHL | .andN8 _ | .cpHL | .cpN8 _ | .orHL | .orN8 _ | .sbcAHL
    | .sbcAN8 _ | .subHL | .subN8 _ | .xorHL | .xorN8 _ | .addHLR16 _ | .incR16 _ | .decR16 _ | .ldCA | .ldAC
    | .ldHLR8 _ | .ldR8HL _ | .ldR16A _ | .ldAR16 _ | .ldR8N8 _ _ | .ldSPHL | .lddHLA | .lddAHL | .ldiHLA | .ldiAHL
    | .bitR8 _ _ | .resR8 _ _ | .setR8 _ _ | .rlR8 _ | .rlcR8 _ | .rrR8 _ | .rrcR8 _ | .slaR8 _ | .sraR8 _ | .srlR8 _
    | .swapR8 _ => 2
    | .bitHL _ | .decHL | .incHL | .jrE8 _ | .ldHLN8 _ | .ldHLSPE8 _ | .ldR16N16 _ _ | .ldhN8A _ | .ldhAN8 _
    | .popR16 _ => 3
    | .addSPE8 _ | .jpN16 _ | .ldN16A _ | .ldAN16 _ | .pushR16 _ | .ret | .reti | .rst _ | .resHL _ | .setHL _ | .rlHL
    | .rlcHL | .rrHL | .rrcHL | .slaHL | .sraHL | .srlHL | .swapHL => 4
    | .ldN16SP _ => 5
    | .callN16 _ => 6
    | .jrCC cc _ => if holds cc f = true then 3 else 2
    | .jpCC cc _ => if holds cc f = true then 4 else 3
    | .retCC cc => if holds cc f = true then 5 else 2
    | .callCC cc _ => if holds cc f = true then 6 else 3
    | .undefD3 | .undefDB | .undefDD | .undefE3 | .undefE4 | .undefEB | .undefEC | .undefED | .undefF4 | .undefFC
    | .undefFD => 0
  ∀ (s : State) (b0 b1 b2 : Byte) (i : Instr) (rest : List Byte),
    let d := (deliverInbox s).2
    s.mode = .running → (d.ime = false ∨ d.ifReg &&& d.ie.setWidth 5 = 0) →
    decode [b0, b1, b2] = .ok (i, rest) → peek d d.regs.pc = some b0 →
    (2 ≤ i.size → peek d (d.regs.pc + 1) = some b1) → (3 ≤ i.size → peek d (d.regs.pc + 2) = some b2) →
    let s1 := { d with regs := { d.regs with pc := d.regs.pc + BitVec.ofNat 16 i.size }, outOfSpec := false }
    let takesEffect := s.eiDelay = true ∧ i ∉ [Instr.di, .undefD3, .undefDB, .undefDD, .undefE3, .undefE4, .undefEB,
      .undefEC, .undefED, .undefF4, .undefFC, .undefFD]
    (∀ t, exec i s1 = .next t → t.outOfSpec = false →
      let u := { t with clk := t.clk + clk i d.regs.f }
      (takesEffect → step s = .next { u with ime := true, eiDelay := false }) ∧
      (¬takesEffect → step s = .next u)) ∧
    (∀ t, exec i s1 = .next t → t.outOfSpec = true → step s = .refused .unmappedAccess) ∧
    (∀ r, exec i s1 = .refused r → step s = .refused r)

/-- Where the machine runs or is halted and, after what the devices do before the step (d), IME = 1 and an enabled
request is pending, a step is the interrupt entry of the lowest-numbered one: mode Running, IME and ei_delay cleared,
its bit of IF cleared, pc pushed, pc at $0040 + 8k, and nothing else (R366, R367, R368). The model's choices in it: the
order of these where the push overwrites IF or IE (log 21, decision D6), the 5 machine cycles on clk (log 23), and the
refusal where the push set the out-of-spec marker, which only UNMAPPED_ACCESS = refuse does (log 15). -/
def Obligations.InterruptEntry : Prop :=
  ∀ (s : State) (k : Irq),
    let d := (deliverInbox s).2
    (s.mode = .running ∨ s.mode = .halted) → d.ime = true →
    (d.ifReg &&& d.ie.setWidth 5).getLsbD k.index = true →
    (∀ j, j < k.index → (d.ifReg &&& d.ie.setWidth 5).getLsbD j = false) →
    let s1 := { d with mode := .running, ime := false, eiDelay := false, outOfSpec := false
                       ifReg := d.ifReg &&& ~~~((1 : BitVec 5) <<< k.index) }
    let s2 := memWrite (d.regs.sp - 2) (lo8 d.regs.pc) (memWrite (d.regs.sp - 1) (hi8 d.regs.pc) s1)
    (s2.outOfSpec = false → step s = .next
      { s2 with regs := { d.regs with sp := d.regs.sp - 2, pc := BitVec.ofNat 16 (0x40 + 8 * k.index) }
                clk := s2.clk + 5 }) ∧
    (s2.outOfSpec = true → step s = .refused .unmappedAccess)

/-- An interrupt whose handler is RETI alone returns where it left: after the entry, exec of RETI restores pc and SP
and every other register, sets IME and leaves every byte outside the two stack bytes as it was (R369, R372). -/
def Obligations.InterruptThenReti : Prop :=
  ∀ (s : State) (k : Irq) (i j : Nat),
    place s (s.regs.sp - 1) = .ram i → place s (s.regs.sp - 2) = .ram j →
    dmaHides s (s.regs.sp - 1) = false → dmaHides s (s.regs.sp - 2) = false →
    ∃ u, exec .reti (takeInterrupt k s) = .next u ∧ u.regs = s.regs ∧ u.ime = true ∧ u.eiDelay = false ∧
      u.ifReg = s.ifReg &&& ~~~((1 : BitVec 5) <<< k.index) ∧
      ∀ b, b ≠ s.regs.sp - 1 → b ≠ s.regs.sp - 2 → peek u b = peek s b

/-- A halted machine, d being it after what the devices do before the step: with no enabled request pending in d the step
gives d; with one it leaves Halted in that very step, whatever IME is: the step is the one that d makes as a running
machine with no further events before it, and where IME = 1 a next state has mode Running (R344, R366, D27). That a
step's events stand in the inbox is the model's choice (log 9). -/
def Obligations.HaltIdlesAndWakes : Prop :=
  ∀ s : State, s.mode = .halted →
    let d := (deliverInbox s).2
    (d.ifReg &&& d.ie.setWidth 5 = 0 → step s = .next d) ∧
    (d.ifReg &&& d.ie.setWidth 5 ≠ 0 → step s = step { d with mode := .running, inbox := [] :: d.inbox }) ∧
    (∀ t, d.ifReg &&& d.ie.setWidth 5 ≠ 0 → step s = .next t → s.ime = true → t.mode = .running)

/-- A stopped machine leaves Stopped only when the devices report the joypad event: without it a step changes what the
devices changed and nothing else, and whatever else they do, with it the step goes on as the running machine; no device
event changes a CPU register, IME, ei_delay, the mode, IE, KEY1, a bank register or another register of the controller
but its running clock, the record of device writes, a count or the configuration (R346, R364, R366). That the joypad
event is an event of its own, apart from the request bit, and that a step's events stand in the inbox, are the model's
choices (logs 9 and 25). -/
def Obligations.StopEndsByJoypadOnly : Prop :=
  (∀ s : State, s.mode = .stopped →
    (s.inbox = [] → step s = .next s) ∧
    (∀ es rest, s.inbox = es :: rest →
      (DevEvent.joypadLow ∉ es → step s = .next (deliverAll es { s with inbox := rest })) ∧
      (DevEvent.joypadLow ∈ es →
        step s = step { deliverAll es { s with inbox := rest } with mode := .running, inbox := [] :: rest }))) ∧
  (∀ (es : List DevEvent) (s : State),
    let t := deliverAll es s
    t = { s with ifReg := t.ifReg, lcdMode := t.lcdMode, mem := t.mem, oamDma := t.oamDma, vramDma := t.vramDma
                 cart := { s.cart with live := t.cart.live } })

/-- A device's request sets its bit of IF and no other, clears none, and writes neither IE nor IME (R364). -/
def Obligations.DeviceRequestSetsIfBit : Prop :=
  ∀ (s : State) (k : Irq) (b : Nat), b < 5 →
    (deliver (.request k) s).ifReg.getLsbD b = (s.ifReg.getLsbD b || decide (b = k.index)) ∧
    deliver (.request k) s = { s with ifReg := (deliver (.request k) s).ifReg }

/-- EI's delay: where ei_delay is set with IME = 0, a step of the running machine that runs any instruction other than
DI and the eleven undefined opcodes ends with IME = 1 and ei_delay = 0; DI ends with both 0 (R32, R342, R366, R451). That
an undefined opcode leaves both alone is the model's choice (log 20). -/
def Obligations.EiTakesEffectAfterNext : Prop :=
  ∀ (s t : State),
    s.mode = .running → s.ime = false → s.eiDelay = true → step s = .next t →
    let i := (fetchInstr (wake (deliverInbox s).2)).1
    (i = .di → t.ime = false ∧ t.eiDelay = false) ∧
    (i ∉ [Instr.di, .undefD3, .undefDB, .undefDD, .undefE3, .undefE4, .undefEB, .undefEC, .undefED, .undefF4, .undefFC,
      .undefFD] → t.ime = true ∧ t.eiDelay = false) ∧
    (i ∈ [Instr.undefD3, .undefDB, .undefDD, .undefE3, .undefE4, .undefEB, .undefEC, .undefED, .undefF4, .undefFC,
      .undefFD] → t.ime = false ∧ t.eiDelay = true)

/-! ### Invariants of every step -/

/-- Every step keeps memory in its canonical form. -/
def Obligations.StepKeepsMemoryCanonical : Prop :=
  ∀ s t : State, s.mem.wf = true → step s = .next t → t.mem.wf = true

/-- Memory at reset is in canonical form. -/
def Obligations.ResetMemoryIsCanonical : Prop := State.reset.mem.wf = true

/-- No step changes a byte of ROM in any bank: "a write never changes ROM" (R62, R71). -/
def Obligations.StepNeverChangesRom : Prop :=
  ∀ (s t : State) (key : Nat), step s = .next t → key % 65536 < 0x8000 → t.mem.read key = s.mem.read key

/-- No step changes the configuration (R9), and the record of device writes only grows at its head (R71, log 8). -/
def Obligations.StepKeepsConfiguration : Prop :=
  ∀ s t : State, step s = .next t → t.cfg = s.cfg ∧ ∃ new, t.devLog = new ++ s.devLog

/-- A step that enters Locked ran an undefined opcode: no other event does (R33, R112, R360). -/
def Obligations.OnlyUndefinedOpcodesLock : Prop :=
  ∀ s t : State, s.mode ≠ .locked → step s = .next t → t.mode = .locked →
    (fetchInstr (wake (deliverInbox s).2)).1 ∈
      [Instr.undefD3, .undefDB, .undefDD, .undefE3, .undefE4, .undefEB, .undefEC, .undefED, .undefF4, .undefFC,
        .undefFD]

/-- IME is "set by RETI at once and by EI with a delay of one instruction": a step that sets it ran RETI or began with
ei_delay set (R31). -/
def Obligations.OnlyRetiAndEiSetIme : Prop :=
  ∀ s t : State, s.ime = false → step s = .next t → t.ime = true →
    s.eiDelay = true ∨ (fetchInstr (wake (deliverInbox s).2)).1 = .reti

/-- A step is refused by HALT or by STOP, with an enabled request pending before the instruction, and, only where
UNMAPPED_ACCESS is refuse, for an unmapped access: there is no other stop and no fault (R52, R360, R365, R466). -/
def Obligations.OnlyHaltAndStopAreRefused : Prop :=
  ∀ s : State,
    (∀ r, step s ≠ .fault r) ∧
    (∀ r, step s = .refused r →
      (pending (deliverInbox s).2 ≠ 0 ∧
        (((fetchInstr (wake (deliverInbox s).2)).1 = .halt ∧ r = .haltPending) ∨
          (∃ n, (fetchInstr (wake (deliverInbox s).2)).1 = .stop n ∧ r = .stopPending))) ∨
      (s.cfg.unmapped = .refuse ∧ r = .unmappedAccess))

/-! ### Memory and the bus -/

/-- A write changes no register, not IME, ei_delay or the mode, and no configuration (R71). The model's choice: a read,
of a device register too, changes nothing but the count of free bytes drawn (log 7), and, at $E000 to $FDFF or $FEA0 to
$FEFF under UNMAPPED_ACCESS = refuse, the out-of-spec marker (log 15). -/
def Obligations.AccessesLeaveTheCpuAlone : Prop :=
  ∀ (s : State) (a : Word) (v : Byte),
    ((memRead a s).2 = s ∨ (memRead a s).2 = { s with queries := s.queries + 1 } ∨
      (s.cfg.unmapped = .refuse ∧
        ((0xE000 ≤ a.toNat ∧ a.toNat < 0xFE00) ∨ (0xFEA0 ≤ a.toNat ∧ a.toNat < 0xFF00)) ∧
        (memRead a s).2 = { s with queries := s.queries + 1, outOfSpec := true })) ∧
    (memWrite a v s).regs = s.regs ∧ (memWrite a v s).ime = s.ime ∧ (memWrite a v s).eiDelay = s.eiDelay ∧
    (memWrite a v s).mode = s.mode ∧ (memWrite a v s).cfg = s.cfg

/-- RAM: a write makes the byte the value, a read gives the byte last written, and neither does anything else (R59, R70,
R71). Of High RAM at any time; outside an OAM DMA of work RAM, of VRAM and OAM that are not locked, and of cartridge RAM
enabled by RAMG = $0A, in its selected bank (R65, R67, R396, R398). The model's choices: which byte of memory a bank's
address names (logs 13 and 31), that all eight bits of RAMG count (log 17), and when VRAM and OAM are locked (logs 10
and 12). -/
def Obligations.RamReadsBackWhatWasWritten : Prop :=
  let ramBankOf : State → Nat := fun s =>
    match s.cfg.cartridge.controller with
    | .none => 0
    | .mbc3 => s.cart.ramb.toNat
    | .mbc5 => s.cart.ramb.toNat % (if s.cfg.cartridge.rumble = true then 4 else 16)
  ∀ (s : State) (a : Word) (v : Byte) (key : Nat),
    (0xFF80 ≤ a.toNat ∧ a.toNat < 0xFFFF ∧ key = a.toNat) ∨
      (s.oamDma = false ∧
        ((0xC000 ≤ a.toNat ∧ a.toNat < 0xD000 ∧ key = a.toNat) ∨
          (0xD000 ≤ a.toNat ∧ a.toNat < 0xE000 ∧
            key = ((if s.cfg.variant = .cgb then max 1 s.svbk.toNat else 1) - 1) * 65536 + a.toNat) ∨
          (0x8000 ≤ a.toNat ∧ a.toNat < 0xA000 ∧ s.lcdMode ≠ 3 ∧ s.vramDma = false ∧
            key = (if s.cfg.variant = .cgb then s.vbk.toNat else 0) * 65536 + a.toNat) ∨
          (0xFE00 ≤ a.toNat ∧ a.toNat < 0xFEA0 ∧ s.lcdMode.toNat < 2 ∧ key = a.toNat) ∨
          (0xA000 ≤ a.toNat ∧ a.toNat < 0xC000 ∧ s.cfg.cartridge.controller ≠ .none ∧ s.cart.ramg = 0x0A ∧
            (s.cfg.cartridge.controller = .mbc3 → s.cart.ramb.toNat ≤ 3) ∧
            ramBankOf s * 8192 + (a.toNat - 0xA000) < s.cfg.cartridge.ramBytes ∧
            key = ramBankOf s * 65536 + a.toNat))) →
    memRead a (memWrite a v s) = (v, memWrite a v s) ∧
    memWrite a v s = { s with mem := (memWrite a v s).mem } ∧
    (memWrite a v s).mem.read key = v ∧
    ∀ k, k ≠ key → (memWrite a v s).mem.read k = s.mem.read k

/-- IF and IE: a write of $FF0F keeps the five low bits, a write of $FFFF all eight, and neither changes anything else;
outside an OAM DMA IF reads back with the three unused bits set and IE as written (R361, R362). -/
def Obligations.IfAndIeReadBack : Prop :=
  ∀ (s : State) (v : Byte),
    memWrite 0xFF0F v s = { s with ifReg := v.setWidth 5 } ∧
    memWrite 0xFFFF v s = { s with ie := v } ∧
    (s.oamDma = false →
      memRead 0xFF0F (memWrite 0xFF0F v s) = (0xE0 ||| (v &&& 0x1F), memWrite 0xFF0F v s) ∧
      memRead 0xFFFF (memWrite 0xFFFF v s) = (v, memWrite 0xFFFF v s))

/-- A write to $0000 to $7FFF changes no memory and nothing but the controller's registers: of an MBC3 RAMG, the ROM
bank, the RAM bank or clock select, of an MBC5 RAMG, ROMB0, bit 0 of ROMB1, RAMB, by the address range alone; without a
controller it changes nothing at all (R64, R65, R67, R68, R71). -/
def Obligations.RomWritesAreCommands : Prop :=
  ∀ (s : State) (a : Word) (v : Byte), a.toNat < 0x8000 →
    let t := memWrite a v s
    t = { s with cart := t.cart } ∧
    (s.cfg.cartridge.controller = .none → t = s) ∧
    (s.cfg.cartridge.controller = .mbc3 →
      (a.toNat < 0x2000 → t.cart = { s.cart with ramg := v }) ∧
      (0x2000 ≤ a.toNat → a.toNat < 0x4000 → t.cart = { s.cart with romb0 := v }) ∧
      (0x4000 ≤ a.toNat → a.toNat < 0x6000 → t.cart = { s.cart with ramb := v })) ∧
    (s.cfg.cartridge.controller = .mbc5 →
      (a.toNat < 0x2000 → t.cart = { s.cart with ramg := v }) ∧
      (0x2000 ≤ a.toNat → a.toNat < 0x3000 → t.cart = { s.cart with romb0 := v }) ∧
      (0x3000 ≤ a.toNat → a.toNat < 0x4000 → t.cart = { s.cart with romb1 := v.setWidth 1 }) ∧
      (0x4000 ≤ a.toNat → a.toNat < 0x6000 → t.cart = { s.cart with ramb := v }) ∧
      (0x6000 ≤ a.toNat → t = s))

/-- An MBC5 shows at $4000 to $7FFF the ROM bank whose 9-bit number was written to ROMB0 and ROMB1, for every number
from 1 to the last bank, and still shows bank 0 below $4000 (R62, R67). -/
def Obligations.Mbc5SelectsRomBank : Prop :=
  ∀ (s : State) (n : Nat) (a : Word),
    s.cfg.cartridge.controller = .mbc5 → 1 ≤ n → n < s.cfg.cartridge.romBanks → n < 512 → s.oamDma = false →
    a.toNat < 0x8000 →
    let t := memWrite 0x3000 (BitVec.ofNat 8 (n / 256)) (memWrite 0x2000 (BitVec.ofNat 8 n) s)
    memRead a t =
      (s.mem.read (if a.toNat < 0x4000 then a.toNat else (n - 1) * 65536 + a.toNat), t)

/-- An MBC3: a ROM bank number $01 to $7F written to $2000 to $3FFF shows that bank at $4000 to $7FFF and bank 0 below;
writing $00 and then $01 to $6000 to $7FFF latches the clock data; with $0A in RAMG and $08 to $0C selected, $A000 to
$BFFF reads the latched SEC, MIN, HRS, DAYL, DAYH, and a write there sets that register of the clock and changes no byte
of memory; DAYH bit 6 stops the clock, which otherwise counts; and DAYH bit 7 once set stays set while only the clock
changes it, until a byte whose bit 7 is zero is written (R62, R65 Notes 1 to 3). The model's choices (log 18): a clock
that counts, and takes the writes, apart from the latched data the program reads; that the latched register written is a
free byte until the next latch; and that bit 6 stops the clock when set. -/
def Obligations.Mbc3LatchAndDayCarry : Prop :=
  ∀ s : State, s.cfg.cartridge.controller = .mbc3 →
    (∀ (n : Byte) (w a : Word), 1 ≤ n.toNat → n.toNat ≤ 0x7F → n.toNat < s.cfg.cartridge.romBanks → s.oamDma = false →
      0x2000 ≤ w.toNat → w.toNat < 0x4000 → a.toNat < 0x8000 →
      memRead a (memWrite w n s) =
        (s.mem.read (if a.toNat < 0x4000 then a.toNat else (n.toNat - 1) * 65536 + a.toNat), memWrite w n s)) ∧
    (∀ a b : Word, 0x6000 ≤ a.toNat → a.toNat < 0x8000 → 0x6000 ≤ b.toNat → b.toNat < 0x8000 →
      (memWrite b 0x01 (memWrite a 0x00 s)).cart.latched = s.cart.live) ∧
    (∀ a : Word, 0xA000 ≤ a.toNat → a.toNat < 0xC000 → s.oamDma = false → s.cfg.cartridge.timer = true →
      s.cart.ramg = 0x0A →
      (s.cart.ramb = 0x08 → memRead a s = (s.cart.latched.sec, s)) ∧
      (s.cart.ramb = 0x09 → memRead a s = (s.cart.latched.min, s)) ∧
      (s.cart.ramb = 0x0A → memRead a s = (s.cart.latched.hrs, s)) ∧
      (s.cart.ramb = 0x0B → memRead a s = (s.cart.latched.dayl, s)) ∧
      (s.cart.ramb = 0x0C → memRead a s = (s.cart.latched.dayh, s))) ∧
    (∀ (a : Word) (v n : Byte) (r : ClockReg), 0xA000 ≤ a.toNat → a.toNat < 0xC000 → s.cfg.cartridge.timer = true →
      s.cart.ramg = 0x0A → s.cart.ramb = n →
      (n, r) ∈ [((0x08 : Byte), ClockReg.sec), (0x09, .min), (0x0A, .hrs), (0x0B, .dayl), (0x0C, .dayh)] →
      memWrite a v s = { s with
        queries := s.queries + 1
        cart := { s.cart with
          live := s.cart.live.set r v
          latched := s.cart.latched.set r (Config.oracleByte s.queries s.devLog a.toNat) } } ∧
      (r = .dayh → (memWrite a v s).cart.live.dayh.getLsbD 7 = v.getLsbD 7)) ∧
    (∀ (r : ClockReg) (v : Byte),
      (s.cart.live.dayh.getLsbD 6 = true → deliver (.clockTick r v) s = s) ∧
      (s.cart.live.dayh.getLsbD 6 = false → r ≠ .dayh → (deliver (.clockTick r v) s).cart.live = s.cart.live.set r v) ∧
      (s.cart.live.dayh.getLsbD 6 = false →
        (deliver (.clockTick .dayh v) s).cart.live.dayh.getLsbD 0 = v.getLsbD 0) ∧
      (s.cart.live.dayh.getLsbD 7 = true → (deliver (.clockTick r v) s).cart.live.dayh.getLsbD 7 = true))

/-- The model's choices at addresses where the spec gives an access no effect (logs 7, 14, 15, 17). At $E000 to $FDFF
and $FEA0 to $FEFF: under UNMAPPED_ACCESS = oracle a read answers a free byte and changes nothing else, and a write
changes nothing; under refuse either also sets the out-of-spec marker, for which the step is refused. At $A000 to $BFFF
without a controller, or while RAMG does not hold $0A, a read is a free byte and a write changes nothing. -/
def Obligations.UnmappedAccessesNeverFault : Prop :=
  ∀ (s : State) (a : Word) (v : Byte),
    let x := Config.oracleByte s.queries s.devLog a.toNat
    (((0xE000 ≤ a.toNat ∧ a.toNat < 0xFE00) ∨ (0xFEA0 ≤ a.toNat ∧ a.toNat < 0xFF00)) →
      (s.cfg.unmapped = .oracle →
        memWrite a v s = s ∧ memRead a s = (x, { s with queries := s.queries + 1 })) ∧
      (s.cfg.unmapped = .refuse →
        memWrite a v s = { s with outOfSpec := true } ∧
        memRead a s = (x, { s with queries := s.queries + 1, outOfSpec := true }))) ∧
    (0xA000 ≤ a.toNat → a.toNat < 0xC000 →
      (s.cfg.cartridge.controller = .none ∨ s.cart.ramg ≠ 0x0A) →
      memWrite a v s = s ∧ memRead a s = (x, { s with queries := s.queries + 1 }))

/-- A write to a device register is recorded: on every variant, a write to $FF00 to $FF7F other than IF appends the
address and the byte to the record, and changes no register, no IF and no IE (R71, R393; the record is log 8). On CGB a
write of VBK takes bit 0 and a write of SVBK bits 2 to 0, and no other write changes either; on DMG none does (R398; that
the two banks are state is log 13). -/
def Obligations.DeviceWritesAreRecorded : Prop :=
  ∀ (s : State) (a : Word) (v : Byte), 0xFF00 ≤ a.toNat → a.toNat < 0xFF80 → a ≠ 0xFF0F →
    let t := memWrite a v s
    t.devLog = (a.toNat, v) :: s.devLog ∧ t.regs = s.regs ∧ t.ifReg = s.ifReg ∧ t.ie = s.ie ∧
    t.vbk = (if s.cfg.variant = .cgb ∧ a = 0xFF4F then v.setWidth 1 else s.vbk) ∧
    t.svbk = (if s.cfg.variant = .cgb ∧ a = 0xFF70 then v.setWidth 3 else s.svbk)

/-- KEY1 on CGB: a write sets bit 0 alone, to either value, and bit 7 is the speed and read-only; outside an OAM DMA a
read gives both bits; and where bit 0 was written 1, STOP switches the speed and clears bit 0 (R346, R400). -/
def Obligations.Key1AndSpeedSwitch : Prop :=
  ∀ (s : State) (v n : Byte), s.cfg.variant = .cgb →
    let t := memWrite 0xFF4D v s
    t.key1 = { speed := s.key1.speed, prepare := v.getLsbD 0 } ∧
    (s.oamDma = false →
      (memRead 0xFF4D t).1.getLsbD 7 = s.key1.speed ∧ (memRead 0xFF4D t).1.getLsbD 0 = v.getLsbD 0) ∧
    (v.getLsbD 0 = true →
      exec (.stop n) t = .next { t with key1 := { speed := !s.key1.speed, prepare := false } })

/-- The model's choices for OAM DMA (log 11): a write of v to $FF46 leaves in OAM the 160 bytes that v : $00 to v : $9F
show, where these are ROM or work RAM, and changes no other byte of memory; from then until the devices report the end
a read of the map outside High RAM answers a free byte and changes nothing else. -/
def Obligations.OamDmaCopiesPage : Prop :=
  (∀ (s : State) (v : Byte) (i : Nat) (key : Nat),
    (v.toNat < 0x80 ∨ (0xC0 ≤ v.toNat ∧ v.toNat < 0xE0)) → s.oamDma = false → i < 160 →
    (key < 0xFE00 ∨ 0xFEA0 ≤ key) →
    some ((memWrite 0xFF46 v s).mem.read (0xFE00 + i)) = peek s (pair16 v (BitVec.ofNat 8 i)) ∧
    (memWrite 0xFF46 v s).mem.read key = s.mem.read key) ∧
  (∀ (s : State) (v : Byte), (memWrite 0xFF46 v s).oamDma = true) ∧
  (∀ (s : State) (a : Word), s.oamDma = true →
    (a.toNat < 0xE000 ∨ (0xFE00 ≤ a.toNat ∧ a.toNat < 0xFEA0) ∨ (0xFF00 ≤ a.toNat ∧ a.toNat < 0xFF80) ∨ a = 0xFFFF) →
    memRead a s = (Config.oracleByte s.queries s.devLog a.toNat, { s with queries := s.queries + 1 })) ∧
  (∀ (s : State) (es : List DevEvent), s.oamDma = true →
    ((deliverAll es s).oamDma = false ↔ DevEvent.oamDmaEnd ∈ es))

/-- The model's choice for memory that something else holds (logs 10 and 12): VRAM in mode 11 or during a GDMA or HDMA,
and OAM in modes 10 and 11. A read answers a free byte and changes nothing else; a write leaves a free byte there, of
VRAM in the bank that VBK selects, and changes no other byte, of the other bank neither, and no register. -/
def Obligations.LockedVideoRamIsFree : Prop :=
  ∀ (s : State) (a : Word) (v : Byte) (here key : Nat),
    (0x8000 ≤ a.toNat ∧ a.toNat < 0xA000 ∧ (s.lcdMode = 3 ∨ s.vramDma = true) ∧
        here = (if s.cfg.variant = .cgb then s.vbk.toNat else 0) * 65536 + a.toNat) ∨
      (0xFE00 ≤ a.toNat ∧ a.toNat < 0xFEA0 ∧ (s.lcdMode = 2 ∨ s.lcdMode = 3) ∧ here = a.toNat) →
    key ≠ here →
    memRead a s = (Config.oracleByte s.queries s.devLog a.toNat, { s with queries := s.queries + 1 }) ∧
    (memWrite a v s).mem.read here = Config.oracleByte s.queries s.devLog a.toNat ∧
    (memWrite a v s).mem.read key = s.mem.read key ∧ (memWrite a v s).regs = s.regs

/-! ### Reset -/

/-- For every ResetState and configuration a run starts at pc = $0100, IME = 0, ei_delay = 0, mode Running, with every
other register as ResetState gives it (R38, R440, R441). -/
def Obligations.StartState : Prop :=
  ∀ (r : ResetState) (cfg : Params),
    let s := State.start r cfg
    s.regs = { a := r.a, f := r.f, b := r.b, c := r.c, d := r.d, e := r.e, h := r.h, l := r.l, sp := r.sp
               pc := 0x0100 } ∧
    s.ime = false ∧ s.eiDelay = false ∧ s.mode = .running ∧ s.ifReg = r.ifReg ∧ s.ie = r.ie ∧ s.key1 = r.key1 ∧
    s.mem = r.mem ∧ s.cart = r.cart
end

