-- ==== Sys2Proof/Laws/Bits.lean ====
section
/-!
SUPPORT. The two halves of a word and the word of two halves.
-/

namespace Sys2Proof

@[simp] theorem hi8_pair16 (hi lo : Byte) : hi8 (pair16 hi lo) = hi := by
  unfold hi8 pair16 zext16
  ext i h
  have h1 : 8 + i < 16 := by omega
  simp [h1, BitVec.getLsbD_eq_getElem h]

@[simp] theorem lo8_pair16 (hi lo : Byte) : lo8 (pair16 hi lo) = lo := by
  unfold lo8 pair16 zext16
  ext i h
  have h1 : i < 16 := by omega
  simp [h, h1]

@[simp] theorem pair16_hi8_lo8 (v : Word) : pair16 (hi8 v) (lo8 v) = v := by
  unfold hi8 lo8 pair16 zext16
  ext i hi
  by_cases h : i < 8
  · simp [h, BitVec.getLsbD_eq_getElem hi]
  · have h2 : i - 8 < 8 := by omega
    have h3 : 8 + (i - 8) = i := by omega
    simp [h, h2, h3, BitVec.getLsbD_eq_getElem hi]

end Sys2Proof
end

