-- ==== Sys2Proof/Laws/Memory.lean ====
section
/-!
SUPPORT. Memory: a read after a write, and that every operation keeps the canonical form.
-/

namespace Sys2Proof.Machine

/-! ### Reading -/

@[simp] theorem Memory.read_nil (k : Nat) : Memory.read [] k = blank := rfl

theorem Memory.read_cons (j : Nat) (v : Byte) (m : Memory) (k : Nat) :
    Memory.read ((j, v) :: m) k = if j = k then v else Memory.read m k := rfl

theorem Memory.read_erase_same (m : Memory) (k : Nat) : (m.erase k).read k = blank := by
  induction m with
  | nil => rfl
  | cons c m ih =>
    obtain ⟨j, v⟩ := c
    by_cases h : j = k <;> simp [Memory.erase, h, Memory.read_cons, ih]

theorem Memory.read_erase_other (m : Memory) (k q : Nat) (h : q ≠ k) : (m.erase k).read q = m.read q := by
  induction m with
  | nil => rfl
  | cons c m ih =>
    obtain ⟨j, v⟩ := c
    by_cases hj : j = k
    · simp [Memory.erase, hj, Memory.read_cons, ih, Ne.symm h]
    · simp [Memory.erase, hj, Memory.read_cons, ih]

theorem Memory.read_insert_other (m : Memory) (k q : Nat) (v : Byte) (h : q ≠ k) :
    (m.insert k v).read q = m.read q := by
  induction m with
  | nil => simp [Memory.insert, Memory.read_cons, Ne.symm h]
  | cons c m ih =>
    obtain ⟨j, w⟩ := c
    by_cases hj : k < j
    · simp [Memory.insert, hj, Memory.read_cons, Ne.symm h]
    · simp [Memory.insert, hj, Memory.read_cons, ih]

theorem Memory.read_insert_erase_same (m : Memory) (k : Nat) (v : Byte) :
    ((m.erase k).insert k v).read k = v := by
  induction m with
  | nil => simp [Memory.erase, Memory.insert, Memory.read_cons]
  | cons c m ih =>
    obtain ⟨j, w⟩ := c
    by_cases hj : j = k
    · simpa [Memory.erase, hj] using ih
    · by_cases hk : k < j
      · simp [Memory.erase, hj, Memory.insert, hk, Memory.read_cons]
      · simp [Memory.erase, hj, Memory.insert, hk, Memory.read_cons, ih]

/-- A read after a write of the same byte gives the value written. -/
@[simp] theorem Memory.read_write_same (m : Memory) (k : Nat) (v : Byte) : (m.write k v).read k = v := by
  unfold Memory.write
  split
  · simp_all [Memory.read_erase_same]
  · exact Memory.read_insert_erase_same m k v

/-- A write leaves every other byte alone. -/
theorem Memory.read_write_other (m : Memory) (k q : Nat) (v : Byte) (h : q ≠ k) :
    (m.write k v).read q = m.read q := by
  unfold Memory.write
  split
  · exact Memory.read_erase_other m k q h
  · rw [Memory.read_insert_other _ _ _ _ h, Memory.read_erase_other _ _ _ h]

theorem Memory.read_write (m : Memory) (k q : Nat) (v : Byte) :
    (m.write k v).read q = if q = k then v else m.read q := by
  by_cases h : q = k
  · subst h; simp
  · simp [h, Memory.read_write_other m k q v h]

/-! ### The canonical form -/

theorem Memory.mem_erase (m : Memory) (k : Nat) (c : Host.Cell) (h : c ∈ m.erase k) : c ∈ m ∧ c.1 ≠ k := by
  induction m with
  | nil => simp [Memory.erase] at h
  | cons d m ih =>
    obtain ⟨j, v⟩ := d
    by_cases hj : j = k
    · simp only [Memory.erase, hj, if_true] at h
      exact ⟨List.mem_cons_of_mem _ (ih h).1, (ih h).2⟩
    · simp only [Memory.erase, hj, if_false, List.mem_cons] at h
      obtain h | h := h
      · subst h; exact ⟨List.mem_cons_self, hj⟩
      · exact ⟨List.mem_cons_of_mem _ (ih h).1, (ih h).2⟩

theorem Memory.mem_insert (m : Memory) (k : Nat) (v : Byte) (c : Host.Cell) (h : c ∈ m.insert k v) :
    c = (k, v) ∨ c ∈ m := by
  induction m with
  | nil => simpa [Memory.insert] using h
  | cons d m ih =>
    obtain ⟨j, w⟩ := d
    by_cases hj : k < j
    · simpa [Memory.insert, hj] using h
    · simp only [Memory.insert, hj, if_false, List.mem_cons] at h
      obtain h | h := h
      · exact .inr (by simp [h])
      · obtain h | h := ih h
        · exact .inl h
        · exact .inr (List.mem_cons_of_mem _ h)

theorem Memory.wf_cons (k : Nat) (v : Byte) (m : Memory) :
    Memory.wf ((k, v) :: m) = true ↔ v ≠ blank ∧ (∀ c ∈ m, k < c.1) ∧ m.wf = true := by
  simp [Memory.wf, and_assoc]

theorem Memory.wf_erase (m : Memory) (k : Nat) (h : m.wf = true) : (m.erase k).wf = true := by
  induction m with
  | nil => rfl
  | cons c m ih =>
    obtain ⟨j, v⟩ := c
    rw [Memory.wf_cons] at h
    by_cases hj : j = k
    · simpa [Memory.erase, hj] using ih h.2.2
    · simp only [Memory.erase, hj, if_false]
      rw [Memory.wf_cons]
      exact ⟨h.1, fun c hc => h.2.1 c (Memory.mem_erase m k c hc).1, ih h.2.2⟩

theorem Memory.wf_insert (m : Memory) (k : Nat) (v : Byte) (hv : v ≠ blank) (hk : ∀ c ∈ m, c.1 ≠ k)
    (h : m.wf = true) : (m.insert k v).wf = true := by
  induction m with
  | nil => simp [Memory.insert, Memory.wf, hv]
  | cons c m ih =>
    obtain ⟨j, w⟩ := c
    rw [Memory.wf_cons] at h
    have hjk : j ≠ k := hk _ List.mem_cons_self
    by_cases hj : k < j
    · simp only [Memory.insert, hj, if_true]
      rw [Memory.wf_cons, Memory.wf_cons]
      refine ⟨hv, ?_, h⟩
      intro c hc
      obtain hc | hc := List.mem_cons.1 hc
      · subst hc; exact hj
      · exact lt_trans hj (h.2.1 c hc)
    · simp only [Memory.insert, hj, if_false]
      rw [Memory.wf_cons]
      refine ⟨h.1, ?_, ih (fun c hc => hk c (List.mem_cons_of_mem _ hc)) h.2.2⟩
      intro c hc
      obtain hc | hc := Memory.mem_insert m k v c hc
      · subst hc; show j < k; omega
      · exact h.2.1 c hc

/-- Every write keeps the canonical form. -/
theorem Memory.wf_write (m : Memory) (k : Nat) (v : Byte) (h : m.wf = true) : (m.write k v).wf = true := by
  unfold Memory.write
  split
  · exact Memory.wf_erase m k h
  · rename_i hv
    exact Memory.wf_insert _ k v hv (fun c hc => (Memory.mem_erase m k c hc).2) (Memory.wf_erase m k h)

end Sys2Proof.Machine
end

