-- ==== Sys2Proof/Laws/State.lean ====
section
/-!
SUPPORT. One lemma per field per update of Machine/Update.lean, and how the register updates of Update.lean and
Operands.lean reduce to `setRegs`.
-/

namespace Sys2Proof.Machine

/-! ### setRegs -/

@[simp] theorem setRegs_regs (s : State) (v : Regs) : (s.setRegs v).regs = v := rfl
@[simp] theorem setRegs_ime (s : State) (v : Regs) : (s.setRegs v).ime = s.ime := rfl
@[simp] theorem setRegs_eiDelay (s : State) (v : Regs) : (s.setRegs v).eiDelay = s.eiDelay := rfl
@[simp] theorem setRegs_mode (s : State) (v : Regs) : (s.setRegs v).mode = s.mode := rfl
@[simp] theorem setRegs_ifReg (s : State) (v : Regs) : (s.setRegs v).ifReg = s.ifReg := rfl
@[simp] theorem setRegs_ie (s : State) (v : Regs) : (s.setRegs v).ie = s.ie := rfl
@[simp] theorem setRegs_key1 (s : State) (v : Regs) : (s.setRegs v).key1 = s.key1 := rfl
@[simp] theorem setRegs_vbk (s : State) (v : Regs) : (s.setRegs v).vbk = s.vbk := rfl
@[simp] theorem setRegs_svbk (s : State) (v : Regs) : (s.setRegs v).svbk = s.svbk := rfl
@[simp] theorem setRegs_mem (s : State) (v : Regs) : (s.setRegs v).mem = s.mem := rfl
@[simp] theorem setRegs_cart (s : State) (v : Regs) : (s.setRegs v).cart = s.cart := rfl
@[simp] theorem setRegs_lcdMode (s : State) (v : Regs) : (s.setRegs v).lcdMode = s.lcdMode := rfl
@[simp] theorem setRegs_oamDma (s : State) (v : Regs) : (s.setRegs v).oamDma = s.oamDma := rfl
@[simp] theorem setRegs_vramDma (s : State) (v : Regs) : (s.setRegs v).vramDma = s.vramDma := rfl
@[simp] theorem setRegs_devLog (s : State) (v : Regs) : (s.setRegs v).devLog = s.devLog := rfl
@[simp] theorem setRegs_queries (s : State) (v : Regs) : (s.setRegs v).queries = s.queries := rfl
@[simp] theorem setRegs_inbox (s : State) (v : Regs) : (s.setRegs v).inbox = s.inbox := rfl
@[simp] theorem setRegs_clk (s : State) (v : Regs) : (s.setRegs v).clk = s.clk := rfl
@[simp] theorem setRegs_outOfSpec (s : State) (v : Regs) : (s.setRegs v).outOfSpec = s.outOfSpec := rfl
@[simp] theorem setRegs_cfg (s : State) (v : Regs) : (s.setRegs v).cfg = s.cfg := rfl

/-! ### setMem -/

@[simp] theorem setMem_regs (s : State) (v : Memory) : (s.setMem v).regs = s.regs := rfl
@[simp] theorem setMem_ime (s : State) (v : Memory) : (s.setMem v).ime = s.ime := rfl
@[simp] theorem setMem_eiDelay (s : State) (v : Memory) : (s.setMem v).eiDelay = s.eiDelay := rfl
@[simp] theorem setMem_mode (s : State) (v : Memory) : (s.setMem v).mode = s.mode := rfl
@[simp] theorem setMem_ifReg (s : State) (v : Memory) : (s.setMem v).ifReg = s.ifReg := rfl
@[simp] theorem setMem_ie (s : State) (v : Memory) : (s.setMem v).ie = s.ie := rfl
@[simp] theorem setMem_key1 (s : State) (v : Memory) : (s.setMem v).key1 = s.key1 := rfl
@[simp] theorem setMem_vbk (s : State) (v : Memory) : (s.setMem v).vbk = s.vbk := rfl
@[simp] theorem setMem_svbk (s : State) (v : Memory) : (s.setMem v).svbk = s.svbk := rfl
@[simp] theorem setMem_mem (s : State) (v : Memory) : (s.setMem v).mem = v := rfl
@[simp] theorem setMem_cart (s : State) (v : Memory) : (s.setMem v).cart = s.cart := rfl
@[simp] theorem setMem_lcdMode (s : State) (v : Memory) : (s.setMem v).lcdMode = s.lcdMode := rfl
@[simp] theorem setMem_oamDma (s : State) (v : Memory) : (s.setMem v).oamDma = s.oamDma := rfl
@[simp] theorem setMem_vramDma (s : State) (v : Memory) : (s.setMem v).vramDma = s.vramDma := rfl
@[simp] theorem setMem_devLog (s : State) (v : Memory) : (s.setMem v).devLog = s.devLog := rfl
@[simp] theorem setMem_queries (s : State) (v : Memory) : (s.setMem v).queries = s.queries := rfl
@[simp] theorem setMem_inbox (s : State) (v : Memory) : (s.setMem v).inbox = s.inbox := rfl
@[simp] theorem setMem_clk (s : State) (v : Memory) : (s.setMem v).clk = s.clk := rfl
@[simp] theorem setMem_outOfSpec (s : State) (v : Memory) : (s.setMem v).outOfSpec = s.outOfSpec := rfl
@[simp] theorem setMem_cfg (s : State) (v : Memory) : (s.setMem v).cfg = s.cfg := rfl

/-! ### setMode -/

@[simp] theorem setMode_regs (s : State) (v : Mode) : (s.setMode v).regs = s.regs := rfl
@[simp] theorem setMode_ime (s : State) (v : Mode) : (s.setMode v).ime = s.ime := rfl
@[simp] theorem setMode_eiDelay (s : State) (v : Mode) : (s.setMode v).eiDelay = s.eiDelay := rfl
@[simp] theorem setMode_mode (s : State) (v : Mode) : (s.setMode v).mode = v := rfl
@[simp] theorem setMode_ifReg (s : State) (v : Mode) : (s.setMode v).ifReg = s.ifReg := rfl
@[simp] theorem setMode_ie (s : State) (v : Mode) : (s.setMode v).ie = s.ie := rfl
@[simp] theorem setMode_key1 (s : State) (v : Mode) : (s.setMode v).key1 = s.key1 := rfl
@[simp] theorem setMode_vbk (s : State) (v : Mode) : (s.setMode v).vbk = s.vbk := rfl
@[simp] theorem setMode_svbk (s : State) (v : Mode) : (s.setMode v).svbk = s.svbk := rfl
@[simp] theorem setMode_mem (s : State) (v : Mode) : (s.setMode v).mem = s.mem := rfl
@[simp] theorem setMode_cart (s : State) (v : Mode) : (s.setMode v).cart = s.cart := rfl
@[simp] theorem setMode_lcdMode (s : State) (v : Mode) : (s.setMode v).lcdMode = s.lcdMode := rfl
@[simp] theorem setMode_oamDma (s : State) (v : Mode) : (s.setMode v).oamDma = s.oamDma := rfl
@[simp] theorem setMode_vramDma (s : State) (v : Mode) : (s.setMode v).vramDma = s.vramDma := rfl
@[simp] theorem setMode_devLog (s : State) (v : Mode) : (s.setMode v).devLog = s.devLog := rfl
@[simp] theorem setMode_queries (s : State) (v : Mode) : (s.setMode v).queries = s.queries := rfl
@[simp] theorem setMode_inbox (s : State) (v : Mode) : (s.setMode v).inbox = s.inbox := rfl
@[simp] theorem setMode_clk (s : State) (v : Mode) : (s.setMode v).clk = s.clk := rfl
@[simp] theorem setMode_outOfSpec (s : State) (v : Mode) : (s.setMode v).outOfSpec = s.outOfSpec := rfl
@[simp] theorem setMode_cfg (s : State) (v : Mode) : (s.setMode v).cfg = s.cfg := rfl

/-! ### setIme -/

@[simp] theorem setIme_regs (s : State) (v w : Bool) : (s.setIme v w).regs = s.regs := rfl
@[simp] theorem setIme_ime (s : State) (v w : Bool) : (s.setIme v w).ime = v := rfl
@[simp] theorem setIme_eiDelay (s : State) (v w : Bool) : (s.setIme v w).eiDelay = w := rfl
@[simp] theorem setIme_mode (s : State) (v w : Bool) : (s.setIme v w).mode = s.mode := rfl
@[simp] theorem setIme_ifReg (s : State) (v w : Bool) : (s.setIme v w).ifReg = s.ifReg := rfl
@[simp] theorem setIme_ie (s : State) (v w : Bool) : (s.setIme v w).ie = s.ie := rfl
@[simp] theorem setIme_key1 (s : State) (v w : Bool) : (s.setIme v w).key1 = s.key1 := rfl
@[simp] theorem setIme_vbk (s : State) (v w : Bool) : (s.setIme v w).vbk = s.vbk := rfl
@[simp] theorem setIme_svbk (s : State) (v w : Bool) : (s.setIme v w).svbk = s.svbk := rfl
@[simp] theorem setIme_mem (s : State) (v w : Bool) : (s.setIme v w).mem = s.mem := rfl
@[simp] theorem setIme_cart (s : State) (v w : Bool) : (s.setIme v w).cart = s.cart := rfl
@[simp] theorem setIme_lcdMode (s : State) (v w : Bool) : (s.setIme v w).lcdMode = s.lcdMode := rfl
@[simp] theorem setIme_oamDma (s : State) (v w : Bool) : (s.setIme v w).oamDma = s.oamDma := rfl
@[simp] theorem setIme_vramDma (s : State) (v w : Bool) : (s.setIme v w).vramDma = s.vramDma := rfl
@[simp] theorem setIme_devLog (s : State) (v w : Bool) : (s.setIme v w).devLog = s.devLog := rfl
@[simp] theorem setIme_queries (s : State) (v w : Bool) : (s.setIme v w).queries = s.queries := rfl
@[simp] theorem setIme_inbox (s : State) (v w : Bool) : (s.setIme v w).inbox = s.inbox := rfl
@[simp] theorem setIme_clk (s : State) (v w : Bool) : (s.setIme v w).clk = s.clk := rfl
@[simp] theorem setIme_outOfSpec (s : State) (v w : Bool) : (s.setIme v w).outOfSpec = s.outOfSpec := rfl
@[simp] theorem setIme_cfg (s : State) (v w : Bool) : (s.setIme v w).cfg = s.cfg := rfl

/-! ### setIf -/

@[simp] theorem setIf_regs (s : State) (v : BitVec 5) : (s.setIf v).regs = s.regs := rfl
@[simp] theorem setIf_ime (s : State) (v : BitVec 5) : (s.setIf v).ime = s.ime := rfl
@[simp] theorem setIf_eiDelay (s : State) (v : BitVec 5) : (s.setIf v).eiDelay = s.eiDelay := rfl
@[simp] theorem setIf_mode (s : State) (v : BitVec 5) : (s.setIf v).mode = s.mode := rfl
@[simp] theorem setIf_ifReg (s : State) (v : BitVec 5) : (s.setIf v).ifReg = v := rfl
@[simp] theorem setIf_ie (s : State) (v : BitVec 5) : (s.setIf v).ie = s.ie := rfl
@[simp] theorem setIf_key1 (s : State) (v : BitVec 5) : (s.setIf v).key1 = s.key1 := rfl
@[simp] theorem setIf_vbk (s : State) (v : BitVec 5) : (s.setIf v).vbk = s.vbk := rfl
@[simp] theorem setIf_svbk (s : State) (v : BitVec 5) : (s.setIf v).svbk = s.svbk := rfl
@[simp] theorem setIf_mem (s : State) (v : BitVec 5) : (s.setIf v).mem = s.mem := rfl
@[simp] theorem setIf_cart (s : State) (v : BitVec 5) : (s.setIf v).cart = s.cart := rfl
@[simp] theorem setIf_lcdMode (s : State) (v : BitVec 5) : (s.setIf v).lcdMode = s.lcdMode := rfl
@[simp] theorem setIf_oamDma (s : State) (v : BitVec 5) : (s.setIf v).oamDma = s.oamDma := rfl
@[simp] theorem setIf_vramDma (s : State) (v : BitVec 5) : (s.setIf v).vramDma = s.vramDma := rfl
@[simp] theorem setIf_devLog (s : State) (v : BitVec 5) : (s.setIf v).devLog = s.devLog := rfl
@[simp] theorem setIf_queries (s : State) (v : BitVec 5) : (s.setIf v).queries = s.queries := rfl
@[simp] theorem setIf_inbox (s : State) (v : BitVec 5) : (s.setIf v).inbox = s.inbox := rfl
@[simp] theorem setIf_clk (s : State) (v : BitVec 5) : (s.setIf v).clk = s.clk := rfl
@[simp] theorem setIf_outOfSpec (s : State) (v : BitVec 5) : (s.setIf v).outOfSpec = s.outOfSpec := rfl
@[simp] theorem setIf_cfg (s : State) (v : BitVec 5) : (s.setIf v).cfg = s.cfg := rfl

/-! ### setIe -/

@[simp] theorem setIe_regs (s : State) (v : Byte) : (s.setIe v).regs = s.regs := rfl
@[simp] theorem setIe_ime (s : State) (v : Byte) : (s.setIe v).ime = s.ime := rfl
@[simp] theorem setIe_eiDelay (s : State) (v : Byte) : (s.setIe v).eiDelay = s.eiDelay := rfl
@[simp] theorem setIe_mode (s : State) (v : Byte) : (s.setIe v).mode = s.mode := rfl
@[simp] theorem setIe_ifReg (s : State) (v : Byte) : (s.setIe v).ifReg = s.ifReg := rfl
@[simp] theorem setIe_ie (s : State) (v : Byte) : (s.setIe v).ie = v := rfl
@[simp] theorem setIe_key1 (s : State) (v : Byte) : (s.setIe v).key1 = s.key1 := rfl
@[simp] theorem setIe_vbk (s : State) (v : Byte) : (s.setIe v).vbk = s.vbk := rfl
@[simp] theorem setIe_svbk (s : State) (v : Byte) : (s.setIe v).svbk = s.svbk := rfl
@[simp] theorem setIe_mem (s : State) (v : Byte) : (s.setIe v).mem = s.mem := rfl
@[simp] theorem setIe_cart (s : State) (v : Byte) : (s.setIe v).cart = s.cart := rfl
@[simp] theorem setIe_lcdMode (s : State) (v : Byte) : (s.setIe v).lcdMode = s.lcdMode := rfl
@[simp] theorem setIe_oamDma (s : State) (v : Byte) : (s.setIe v).oamDma = s.oamDma := rfl
@[simp] theorem setIe_vramDma (s : State) (v : Byte) : (s.setIe v).vramDma = s.vramDma := rfl
@[simp] theorem setIe_devLog (s : State) (v : Byte) : (s.setIe v).devLog = s.devLog := rfl
@[simp] theorem setIe_queries (s : State) (v : Byte) : (s.setIe v).queries = s.queries := rfl
@[simp] theorem setIe_inbox (s : State) (v : Byte) : (s.setIe v).inbox = s.inbox := rfl
@[simp] theorem setIe_clk (s : State) (v : Byte) : (s.setIe v).clk = s.clk := rfl
@[simp] theorem setIe_outOfSpec (s : State) (v : Byte) : (s.setIe v).outOfSpec = s.outOfSpec := rfl
@[simp] theorem setIe_cfg (s : State) (v : Byte) : (s.setIe v).cfg = s.cfg := rfl

/-! ### setKey1 -/

@[simp] theorem setKey1_regs (s : State) (v : Key1) : (s.setKey1 v).regs = s.regs := rfl
@[simp] theorem setKey1_ime (s : State) (v : Key1) : (s.setKey1 v).ime = s.ime := rfl
@[simp] theorem setKey1_eiDelay (s : State) (v : Key1) : (s.setKey1 v).eiDelay = s.eiDelay := rfl
@[simp] theorem setKey1_mode (s : State) (v : Key1) : (s.setKey1 v).mode = s.mode := rfl
@[simp] theorem setKey1_ifReg (s : State) (v : Key1) : (s.setKey1 v).ifReg = s.ifReg := rfl
@[simp] theorem setKey1_ie (s : State) (v : Key1) : (s.setKey1 v).ie = s.ie := rfl
@[simp] theorem setKey1_key1 (s : State) (v : Key1) : (s.setKey1 v).key1 = v := rfl
@[simp] theorem setKey1_vbk (s : State) (v : Key1) : (s.setKey1 v).vbk = s.vbk := rfl
@[simp] theorem setKey1_svbk (s : State) (v : Key1) : (s.setKey1 v).svbk = s.svbk := rfl
@[simp] theorem setKey1_mem (s : State) (v : Key1) : (s.setKey1 v).mem = s.mem := rfl
@[simp] theorem setKey1_cart (s : State) (v : Key1) : (s.setKey1 v).cart = s.cart := rfl
@[simp] theorem setKey1_lcdMode (s : State) (v : Key1) : (s.setKey1 v).lcdMode = s.lcdMode := rfl
@[simp] theorem setKey1_oamDma (s : State) (v : Key1) : (s.setKey1 v).oamDma = s.oamDma := rfl
@[simp] theorem setKey1_vramDma (s : State) (v : Key1) : (s.setKey1 v).vramDma = s.vramDma := rfl
@[simp] theorem setKey1_devLog (s : State) (v : Key1) : (s.setKey1 v).devLog = s.devLog := rfl
@[simp] theorem setKey1_queries (s : State) (v : Key1) : (s.setKey1 v).queries = s.queries := rfl
@[simp] theorem setKey1_inbox (s : State) (v : Key1) : (s.setKey1 v).inbox = s.inbox := rfl
@[simp] theorem setKey1_clk (s : State) (v : Key1) : (s.setKey1 v).clk = s.clk := rfl
@[simp] theorem setKey1_outOfSpec (s : State) (v : Key1) : (s.setKey1 v).outOfSpec = s.outOfSpec := rfl
@[simp] theorem setKey1_cfg (s : State) (v : Key1) : (s.setKey1 v).cfg = s.cfg := rfl

/-! ### setCart -/

@[simp] theorem setCart_regs (s : State) (v : CartRegs) : (s.setCart v).regs = s.regs := rfl
@[simp] theorem setCart_ime (s : State) (v : CartRegs) : (s.setCart v).ime = s.ime := rfl
@[simp] theorem setCart_eiDelay (s : State) (v : CartRegs) : (s.setCart v).eiDelay = s.eiDelay := rfl
@[simp] theorem setCart_mode (s : State) (v : CartRegs) : (s.setCart v).mode = s.mode := rfl
@[simp] theorem setCart_ifReg (s : State) (v : CartRegs) : (s.setCart v).ifReg = s.ifReg := rfl
@[simp] theorem setCart_ie (s : State) (v : CartRegs) : (s.setCart v).ie = s.ie := rfl
@[simp] theorem setCart_key1 (s : State) (v : CartRegs) : (s.setCart v).key1 = s.key1 := rfl
@[simp] theorem setCart_vbk (s : State) (v : CartRegs) : (s.setCart v).vbk = s.vbk := rfl
@[simp] theorem setCart_svbk (s : State) (v : CartRegs) : (s.setCart v).svbk = s.svbk := rfl
@[simp] theorem setCart_mem (s : State) (v : CartRegs) : (s.setCart v).mem = s.mem := rfl
@[simp] theorem setCart_cart (s : State) (v : CartRegs) : (s.setCart v).cart = v := rfl
@[simp] theorem setCart_lcdMode (s : State) (v : CartRegs) : (s.setCart v).lcdMode = s.lcdMode := rfl
@[simp] theorem setCart_oamDma (s : State) (v : CartRegs) : (s.setCart v).oamDma = s.oamDma := rfl
@[simp] theorem setCart_vramDma (s : State) (v : CartRegs) : (s.setCart v).vramDma = s.vramDma := rfl
@[simp] theorem setCart_devLog (s : State) (v : CartRegs) : (s.setCart v).devLog = s.devLog := rfl
@[simp] theorem setCart_queries (s : State) (v : CartRegs) : (s.setCart v).queries = s.queries := rfl
@[simp] theorem setCart_inbox (s : State) (v : CartRegs) : (s.setCart v).inbox = s.inbox := rfl
@[simp] theorem setCart_clk (s : State) (v : CartRegs) : (s.setCart v).clk = s.clk := rfl
@[simp] theorem setCart_outOfSpec (s : State) (v : CartRegs) : (s.setCart v).outOfSpec = s.outOfSpec := rfl
@[simp] theorem setCart_cfg (s : State) (v : CartRegs) : (s.setCart v).cfg = s.cfg := rfl

/-! ### setVbk -/

@[simp] theorem setVbk_regs (s : State) (v : BitVec 1) : (s.setVbk v).regs = s.regs := rfl
@[simp] theorem setVbk_ime (s : State) (v : BitVec 1) : (s.setVbk v).ime = s.ime := rfl
@[simp] theorem setVbk_eiDelay (s : State) (v : BitVec 1) : (s.setVbk v).eiDelay = s.eiDelay := rfl
@[simp] theorem setVbk_mode (s : State) (v : BitVec 1) : (s.setVbk v).mode = s.mode := rfl
@[simp] theorem setVbk_ifReg (s : State) (v : BitVec 1) : (s.setVbk v).ifReg = s.ifReg := rfl
@[simp] theorem setVbk_ie (s : State) (v : BitVec 1) : (s.setVbk v).ie = s.ie := rfl
@[simp] theorem setVbk_key1 (s : State) (v : BitVec 1) : (s.setVbk v).key1 = s.key1 := rfl
@[simp] theorem setVbk_vbk (s : State) (v : BitVec 1) : (s.setVbk v).vbk = v := rfl
@[simp] theorem setVbk_svbk (s : State) (v : BitVec 1) : (s.setVbk v).svbk = s.svbk := rfl
@[simp] theorem setVbk_mem (s : State) (v : BitVec 1) : (s.setVbk v).mem = s.mem := rfl
@[simp] theorem setVbk_cart (s : State) (v : BitVec 1) : (s.setVbk v).cart = s.cart := rfl
@[simp] theorem setVbk_lcdMode (s : State) (v : BitVec 1) : (s.setVbk v).lcdMode = s.lcdMode := rfl
@[simp] theorem setVbk_oamDma (s : State) (v : BitVec 1) : (s.setVbk v).oamDma = s.oamDma := rfl
@[simp] theorem setVbk_vramDma (s : State) (v : BitVec 1) : (s.setVbk v).vramDma = s.vramDma := rfl
@[simp] theorem setVbk_devLog (s : State) (v : BitVec 1) : (s.setVbk v).devLog = s.devLog := rfl
@[simp] theorem setVbk_queries (s : State) (v : BitVec 1) : (s.setVbk v).queries = s.queries := rfl
@[simp] theorem setVbk_inbox (s : State) (v : BitVec 1) : (s.setVbk v).inbox = s.inbox := rfl
@[simp] theorem setVbk_clk (s : State) (v : BitVec 1) : (s.setVbk v).clk = s.clk := rfl
@[simp] theorem setVbk_outOfSpec (s : State) (v : BitVec 1) : (s.setVbk v).outOfSpec = s.outOfSpec := rfl
@[simp] theorem setVbk_cfg (s : State) (v : BitVec 1) : (s.setVbk v).cfg = s.cfg := rfl

/-! ### setSvbk -/

@[simp] theorem setSvbk_regs (s : State) (v : BitVec 3) : (s.setSvbk v).regs = s.regs := rfl
@[simp] theorem setSvbk_ime (s : State) (v : BitVec 3) : (s.setSvbk v).ime = s.ime := rfl
@[simp] theorem setSvbk_eiDelay (s : State) (v : BitVec 3) : (s.setSvbk v).eiDelay = s.eiDelay := rfl
@[simp] theorem setSvbk_mode (s : State) (v : BitVec 3) : (s.setSvbk v).mode = s.mode := rfl
@[simp] theorem setSvbk_ifReg (s : State) (v : BitVec 3) : (s.setSvbk v).ifReg = s.ifReg := rfl
@[simp] theorem setSvbk_ie (s : State) (v : BitVec 3) : (s.setSvbk v).ie = s.ie := rfl
@[simp] theorem setSvbk_key1 (s : State) (v : BitVec 3) : (s.setSvbk v).key1 = s.key1 := rfl
@[simp] theorem setSvbk_vbk (s : State) (v : BitVec 3) : (s.setSvbk v).vbk = s.vbk := rfl
@[simp] theorem setSvbk_svbk (s : State) (v : BitVec 3) : (s.setSvbk v).svbk = v := rfl
@[simp] theorem setSvbk_mem (s : State) (v : BitVec 3) : (s.setSvbk v).mem = s.mem := rfl
@[simp] theorem setSvbk_cart (s : State) (v : BitVec 3) : (s.setSvbk v).cart = s.cart := rfl
@[simp] theorem setSvbk_lcdMode (s : State) (v : BitVec 3) : (s.setSvbk v).lcdMode = s.lcdMode := rfl
@[simp] theorem setSvbk_oamDma (s : State) (v : BitVec 3) : (s.setSvbk v).oamDma = s.oamDma := rfl
@[simp] theorem setSvbk_vramDma (s : State) (v : BitVec 3) : (s.setSvbk v).vramDma = s.vramDma := rfl
@[simp] theorem setSvbk_devLog (s : State) (v : BitVec 3) : (s.setSvbk v).devLog = s.devLog := rfl
@[simp] theorem setSvbk_queries (s : State) (v : BitVec 3) : (s.setSvbk v).queries = s.queries := rfl
@[simp] theorem setSvbk_inbox (s : State) (v : BitVec 3) : (s.setSvbk v).inbox = s.inbox := rfl
@[simp] theorem setSvbk_clk (s : State) (v : BitVec 3) : (s.setSvbk v).clk = s.clk := rfl
@[simp] theorem setSvbk_outOfSpec (s : State) (v : BitVec 3) : (s.setSvbk v).outOfSpec = s.outOfSpec := rfl
@[simp] theorem setSvbk_cfg (s : State) (v : BitVec 3) : (s.setSvbk v).cfg = s.cfg := rfl

/-! ### setVramDma -/

@[simp] theorem setVramDma_regs (s : State) (v : Bool) : (s.setVramDma v).regs = s.regs := rfl
@[simp] theorem setVramDma_ime (s : State) (v : Bool) : (s.setVramDma v).ime = s.ime := rfl
@[simp] theorem setVramDma_eiDelay (s : State) (v : Bool) : (s.setVramDma v).eiDelay = s.eiDelay := rfl
@[simp] theorem setVramDma_mode (s : State) (v : Bool) : (s.setVramDma v).mode = s.mode := rfl
@[simp] theorem setVramDma_ifReg (s : State) (v : Bool) : (s.setVramDma v).ifReg = s.ifReg := rfl
@[simp] theorem setVramDma_ie (s : State) (v : Bool) : (s.setVramDma v).ie = s.ie := rfl
@[simp] theorem setVramDma_key1 (s : State) (v : Bool) : (s.setVramDma v).key1 = s.key1 := rfl
@[simp] theorem setVramDma_vbk (s : State) (v : Bool) : (s.setVramDma v).vbk = s.vbk := rfl
@[simp] theorem setVramDma_svbk (s : State) (v : Bool) : (s.setVramDma v).svbk = s.svbk := rfl
@[simp] theorem setVramDma_mem (s : State) (v : Bool) : (s.setVramDma v).mem = s.mem := rfl
@[simp] theorem setVramDma_cart (s : State) (v : Bool) : (s.setVramDma v).cart = s.cart := rfl
@[simp] theorem setVramDma_lcdMode (s : State) (v : Bool) : (s.setVramDma v).lcdMode = s.lcdMode := rfl
@[simp] theorem setVramDma_oamDma (s : State) (v : Bool) : (s.setVramDma v).oamDma = s.oamDma := rfl
@[simp] theorem setVramDma_vramDma (s : State) (v : Bool) : (s.setVramDma v).vramDma = v := rfl
@[simp] theorem setVramDma_devLog (s : State) (v : Bool) : (s.setVramDma v).devLog = s.devLog := rfl
@[simp] theorem setVramDma_queries (s : State) (v : Bool) : (s.setVramDma v).queries = s.queries := rfl
@[simp] theorem setVramDma_inbox (s : State) (v : Bool) : (s.setVramDma v).inbox = s.inbox := rfl
@[simp] theorem setVramDma_clk (s : State) (v : Bool) : (s.setVramDma v).clk = s.clk := rfl
@[simp] theorem setVramDma_outOfSpec (s : State) (v : Bool) : (s.setVramDma v).outOfSpec = s.outOfSpec := rfl
@[simp] theorem setVramDma_cfg (s : State) (v : Bool) : (s.setVramDma v).cfg = s.cfg := rfl

/-! ### logWrite -/

@[simp] theorem logWrite_regs (s : State) (a : Word) (v : Byte) : (s.logWrite a v).regs = s.regs := rfl
@[simp] theorem logWrite_ime (s : State) (a : Word) (v : Byte) : (s.logWrite a v).ime = s.ime := rfl
@[simp] theorem logWrite_eiDelay (s : State) (a : Word) (v : Byte) : (s.logWrite a v).eiDelay = s.eiDelay := rfl
@[simp] theorem logWrite_mode (s : State) (a : Word) (v : Byte) : (s.logWrite a v).mode = s.mode := rfl
@[simp] theorem logWrite_ifReg (s : State) (a : Word) (v : Byte) : (s.logWrite a v).ifReg = s.ifReg := rfl
@[simp] theorem logWrite_ie (s : State) (a : Word) (v : Byte) : (s.logWrite a v).ie = s.ie := rfl
@[simp] theorem logWrite_key1 (s : State) (a : Word) (v : Byte) : (s.logWrite a v).key1 = s.key1 := rfl
@[simp] theorem logWrite_vbk (s : State) (a : Word) (v : Byte) : (s.logWrite a v).vbk = s.vbk := rfl
@[simp] theorem logWrite_svbk (s : State) (a : Word) (v : Byte) : (s.logWrite a v).svbk = s.svbk := rfl
@[simp] theorem logWrite_mem (s : State) (a : Word) (v : Byte) : (s.logWrite a v).mem = s.mem := rfl
@[simp] theorem logWrite_cart (s : State) (a : Word) (v : Byte) : (s.logWrite a v).cart = s.cart := rfl
@[simp] theorem logWrite_lcdMode (s : State) (a : Word) (v : Byte) : (s.logWrite a v).lcdMode = s.lcdMode := rfl
@[simp] theorem logWrite_oamDma (s : State) (a : Word) (v : Byte) : (s.logWrite a v).oamDma = s.oamDma := rfl
@[simp] theorem logWrite_vramDma (s : State) (a : Word) (v : Byte) : (s.logWrite a v).vramDma = s.vramDma := rfl
@[simp] theorem logWrite_devLog (s : State) (a : Word) (v : Byte) : (s.logWrite a v).devLog = (a.toNat, v) :: s.devLog := rfl
@[simp] theorem logWrite_queries (s : State) (a : Word) (v : Byte) : (s.logWrite a v).queries = s.queries := rfl
@[simp] theorem logWrite_inbox (s : State) (a : Word) (v : Byte) : (s.logWrite a v).inbox = s.inbox := rfl
@[simp] theorem logWrite_clk (s : State) (a : Word) (v : Byte) : (s.logWrite a v).clk = s.clk := rfl
@[simp] theorem logWrite_outOfSpec (s : State) (a : Word) (v : Byte) : (s.logWrite a v).outOfSpec = s.outOfSpec := rfl
@[simp] theorem logWrite_cfg (s : State) (a : Word) (v : Byte) : (s.logWrite a v).cfg = s.cfg := rfl

/-! ### setOamDma -/

@[simp] theorem setOamDma_regs (s : State) (v : Bool) : (s.setOamDma v).regs = s.regs := rfl
@[simp] theorem setOamDma_ime (s : State) (v : Bool) : (s.setOamDma v).ime = s.ime := rfl
@[simp] theorem setOamDma_eiDelay (s : State) (v : Bool) : (s.setOamDma v).eiDelay = s.eiDelay := rfl
@[simp] theorem setOamDma_mode (s : State) (v : Bool) : (s.setOamDma v).mode = s.mode := rfl
@[simp] theorem setOamDma_ifReg (s : State) (v : Bool) : (s.setOamDma v).ifReg = s.ifReg := rfl
@[simp] theorem setOamDma_ie (s : State) (v : Bool) : (s.setOamDma v).ie = s.ie := rfl
@[simp] theorem setOamDma_key1 (s : State) (v : Bool) : (s.setOamDma v).key1 = s.key1 := rfl
@[simp] theorem setOamDma_vbk (s : State) (v : Bool) : (s.setOamDma v).vbk = s.vbk := rfl
@[simp] theorem setOamDma_svbk (s : State) (v : Bool) : (s.setOamDma v).svbk = s.svbk := rfl
@[simp] theorem setOamDma_mem (s : State) (v : Bool) : (s.setOamDma v).mem = s.mem := rfl
@[simp] theorem setOamDma_cart (s : State) (v : Bool) : (s.setOamDma v).cart = s.cart := rfl
@[simp] theorem setOamDma_lcdMode (s : State) (v : Bool) : (s.setOamDma v).lcdMode = s.lcdMode := rfl
@[simp] theorem setOamDma_oamDma (s : State) (v : Bool) : (s.setOamDma v).oamDma = v := rfl
@[simp] theorem setOamDma_vramDma (s : State) (v : Bool) : (s.setOamDma v).vramDma = s.vramDma := rfl
@[simp] theorem setOamDma_devLog (s : State) (v : Bool) : (s.setOamDma v).devLog = s.devLog := rfl
@[simp] theorem setOamDma_queries (s : State) (v : Bool) : (s.setOamDma v).queries = s.queries := rfl
@[simp] theorem setOamDma_inbox (s : State) (v : Bool) : (s.setOamDma v).inbox = s.inbox := rfl
@[simp] theorem setOamDma_clk (s : State) (v : Bool) : (s.setOamDma v).clk = s.clk := rfl
@[simp] theorem setOamDma_outOfSpec (s : State) (v : Bool) : (s.setOamDma v).outOfSpec = s.outOfSpec := rfl
@[simp] theorem setOamDma_cfg (s : State) (v : Bool) : (s.setOamDma v).cfg = s.cfg := rfl

/-! ### setLcdMode -/

@[simp] theorem setLcdMode_regs (s : State) (v : BitVec 2) : (s.setLcdMode v).regs = s.regs := rfl
@[simp] theorem setLcdMode_ime (s : State) (v : BitVec 2) : (s.setLcdMode v).ime = s.ime := rfl
@[simp] theorem setLcdMode_eiDelay (s : State) (v : BitVec 2) : (s.setLcdMode v).eiDelay = s.eiDelay := rfl
@[simp] theorem setLcdMode_mode (s : State) (v : BitVec 2) : (s.setLcdMode v).mode = s.mode := rfl
@[simp] theorem setLcdMode_ifReg (s : State) (v : BitVec 2) : (s.setLcdMode v).ifReg = s.ifReg := rfl
@[simp] theorem setLcdMode_ie (s : State) (v : BitVec 2) : (s.setLcdMode v).ie = s.ie := rfl
@[simp] theorem setLcdMode_key1 (s : State) (v : BitVec 2) : (s.setLcdMode v).key1 = s.key1 := rfl
@[simp] theorem setLcdMode_vbk (s : State) (v : BitVec 2) : (s.setLcdMode v).vbk = s.vbk := rfl
@[simp] theorem setLcdMode_svbk (s : State) (v : BitVec 2) : (s.setLcdMode v).svbk = s.svbk := rfl
@[simp] theorem setLcdMode_mem (s : State) (v : BitVec 2) : (s.setLcdMode v).mem = s.mem := rfl
@[simp] theorem setLcdMode_cart (s : State) (v : BitVec 2) : (s.setLcdMode v).cart = s.cart := rfl
@[simp] theorem setLcdMode_lcdMode (s : State) (v : BitVec 2) : (s.setLcdMode v).lcdMode = v := rfl
@[simp] theorem setLcdMode_oamDma (s : State) (v : BitVec 2) : (s.setLcdMode v).oamDma = s.oamDma := rfl
@[simp] theorem setLcdMode_vramDma (s : State) (v : BitVec 2) : (s.setLcdMode v).vramDma = s.vramDma := rfl
@[simp] theorem setLcdMode_devLog (s : State) (v : BitVec 2) : (s.setLcdMode v).devLog = s.devLog := rfl
@[simp] theorem setLcdMode_queries (s : State) (v : BitVec 2) : (s.setLcdMode v).queries = s.queries := rfl
@[simp] theorem setLcdMode_inbox (s : State) (v : BitVec 2) : (s.setLcdMode v).inbox = s.inbox := rfl
@[simp] theorem setLcdMode_clk (s : State) (v : BitVec 2) : (s.setLcdMode v).clk = s.clk := rfl
@[simp] theorem setLcdMode_outOfSpec (s : State) (v : BitVec 2) : (s.setLcdMode v).outOfSpec = s.outOfSpec := rfl
@[simp] theorem setLcdMode_cfg (s : State) (v : BitVec 2) : (s.setLcdMode v).cfg = s.cfg := rfl

/-! ### setInbox -/

@[simp] theorem setInbox_regs (s : State) (v : List (List DevEvent)) : (s.setInbox v).regs = s.regs := rfl
@[simp] theorem setInbox_ime (s : State) (v : List (List DevEvent)) : (s.setInbox v).ime = s.ime := rfl
@[simp] theorem setInbox_eiDelay (s : State) (v : List (List DevEvent)) : (s.setInbox v).eiDelay = s.eiDelay := rfl
@[simp] theorem setInbox_mode (s : State) (v : List (List DevEvent)) : (s.setInbox v).mode = s.mode := rfl
@[simp] theorem setInbox_ifReg (s : State) (v : List (List DevEvent)) : (s.setInbox v).ifReg = s.ifReg := rfl
@[simp] theorem setInbox_ie (s : State) (v : List (List DevEvent)) : (s.setInbox v).ie = s.ie := rfl
@[simp] theorem setInbox_key1 (s : State) (v : List (List DevEvent)) : (s.setInbox v).key1 = s.key1 := rfl
@[simp] theorem setInbox_vbk (s : State) (v : List (List DevEvent)) : (s.setInbox v).vbk = s.vbk := rfl
@[simp] theorem setInbox_svbk (s : State) (v : List (List DevEvent)) : (s.setInbox v).svbk = s.svbk := rfl
@[simp] theorem setInbox_mem (s : State) (v : List (List DevEvent)) : (s.setInbox v).mem = s.mem := rfl
@[simp] theorem setInbox_cart (s : State) (v : List (List DevEvent)) : (s.setInbox v).cart = s.cart := rfl
@[simp] theorem setInbox_lcdMode (s : State) (v : List (List DevEvent)) : (s.setInbox v).lcdMode = s.lcdMode := rfl
@[simp] theorem setInbox_oamDma (s : State) (v : List (List DevEvent)) : (s.setInbox v).oamDma = s.oamDma := rfl
@[simp] theorem setInbox_vramDma (s : State) (v : List (List DevEvent)) : (s.setInbox v).vramDma = s.vramDma := rfl
@[simp] theorem setInbox_devLog (s : State) (v : List (List DevEvent)) : (s.setInbox v).devLog = s.devLog := rfl
@[simp] theorem setInbox_queries (s : State) (v : List (List DevEvent)) : (s.setInbox v).queries = s.queries := rfl
@[simp] theorem setInbox_inbox (s : State) (v : List (List DevEvent)) : (s.setInbox v).inbox = v := rfl
@[simp] theorem setInbox_clk (s : State) (v : List (List DevEvent)) : (s.setInbox v).clk = s.clk := rfl
@[simp] theorem setInbox_outOfSpec (s : State) (v : List (List DevEvent)) : (s.setInbox v).outOfSpec = s.outOfSpec := rfl
@[simp] theorem setInbox_cfg (s : State) (v : List (List DevEvent)) : (s.setInbox v).cfg = s.cfg := rfl

/-! ### countQuery -/

@[simp] theorem countQuery_regs (s : State) : (s.countQuery).regs = s.regs := rfl
@[simp] theorem countQuery_ime (s : State) : (s.countQuery).ime = s.ime := rfl
@[simp] theorem countQuery_eiDelay (s : State) : (s.countQuery).eiDelay = s.eiDelay := rfl
@[simp] theorem countQuery_mode (s : State) : (s.countQuery).mode = s.mode := rfl
@[simp] theorem countQuery_ifReg (s : State) : (s.countQuery).ifReg = s.ifReg := rfl
@[simp] theorem countQuery_ie (s : State) : (s.countQuery).ie = s.ie := rfl
@[simp] theorem countQuery_key1 (s : State) : (s.countQuery).key1 = s.key1 := rfl
@[simp] theorem countQuery_vbk (s : State) : (s.countQuery).vbk = s.vbk := rfl
@[simp] theorem countQuery_svbk (s : State) : (s.countQuery).svbk = s.svbk := rfl
@[simp] theorem countQuery_mem (s : State) : (s.countQuery).mem = s.mem := rfl
@[simp] theorem countQuery_cart (s : State) : (s.countQuery).cart = s.cart := rfl
@[simp] theorem countQuery_lcdMode (s : State) : (s.countQuery).lcdMode = s.lcdMode := rfl
@[simp] theorem countQuery_oamDma (s : State) : (s.countQuery).oamDma = s.oamDma := rfl
@[simp] theorem countQuery_vramDma (s : State) : (s.countQuery).vramDma = s.vramDma := rfl
@[simp] theorem countQuery_devLog (s : State) : (s.countQuery).devLog = s.devLog := rfl
@[simp] theorem countQuery_queries (s : State) : (s.countQuery).queries = s.queries + 1 := rfl
@[simp] theorem countQuery_inbox (s : State) : (s.countQuery).inbox = s.inbox := rfl
@[simp] theorem countQuery_clk (s : State) : (s.countQuery).clk = s.clk := rfl
@[simp] theorem countQuery_outOfSpec (s : State) : (s.countQuery).outOfSpec = s.outOfSpec := rfl
@[simp] theorem countQuery_cfg (s : State) : (s.countQuery).cfg = s.cfg := rfl

/-! ### tick -/

@[simp] theorem tick_regs (s : State) (v : Nat) : (s.tick v).regs = s.regs := rfl
@[simp] theorem tick_ime (s : State) (v : Nat) : (s.tick v).ime = s.ime := rfl
@[simp] theorem tick_eiDelay (s : State) (v : Nat) : (s.tick v).eiDelay = s.eiDelay := rfl
@[simp] theorem tick_mode (s : State) (v : Nat) : (s.tick v).mode = s.mode := rfl
@[simp] theorem tick_ifReg (s : State) (v : Nat) : (s.tick v).ifReg = s.ifReg := rfl
@[simp] theorem tick_ie (s : State) (v : Nat) : (s.tick v).ie = s.ie := rfl
@[simp] theorem tick_key1 (s : State) (v : Nat) : (s.tick v).key1 = s.key1 := rfl
@[simp] theorem tick_vbk (s : State) (v : Nat) : (s.tick v).vbk = s.vbk := rfl
@[simp] theorem tick_svbk (s : State) (v : Nat) : (s.tick v).svbk = s.svbk := rfl
@[simp] theorem tick_mem (s : State) (v : Nat) : (s.tick v).mem = s.mem := rfl
@[simp] theorem tick_cart (s : State) (v : Nat) : (s.tick v).cart = s.cart := rfl
@[simp] theorem tick_lcdMode (s : State) (v : Nat) : (s.tick v).lcdMode = s.lcdMode := rfl
@[simp] theorem tick_oamDma (s : State) (v : Nat) : (s.tick v).oamDma = s.oamDma := rfl
@[simp] theorem tick_vramDma (s : State) (v : Nat) : (s.tick v).vramDma = s.vramDma := rfl
@[simp] theorem tick_devLog (s : State) (v : Nat) : (s.tick v).devLog = s.devLog := rfl
@[simp] theorem tick_queries (s : State) (v : Nat) : (s.tick v).queries = s.queries := rfl
@[simp] theorem tick_inbox (s : State) (v : Nat) : (s.tick v).inbox = s.inbox := rfl
@[simp] theorem tick_clk (s : State) (v : Nat) : (s.tick v).clk = s.clk + v := rfl
@[simp] theorem tick_outOfSpec (s : State) (v : Nat) : (s.tick v).outOfSpec = s.outOfSpec := rfl
@[simp] theorem tick_cfg (s : State) (v : Nat) : (s.tick v).cfg = s.cfg := rfl

/-! ### setOutOfSpec -/

@[simp] theorem setOutOfSpec_regs (s : State) (v : Bool) : (s.setOutOfSpec v).regs = s.regs := rfl
@[simp] theorem setOutOfSpec_ime (s : State) (v : Bool) : (s.setOutOfSpec v).ime = s.ime := rfl
@[simp] theorem setOutOfSpec_eiDelay (s : State) (v : Bool) : (s.setOutOfSpec v).eiDelay = s.eiDelay := rfl
@[simp] theorem setOutOfSpec_mode (s : State) (v : Bool) : (s.setOutOfSpec v).mode = s.mode := rfl
@[simp] theorem setOutOfSpec_ifReg (s : State) (v : Bool) : (s.setOutOfSpec v).ifReg = s.ifReg := rfl
@[simp] theorem setOutOfSpec_ie (s : State) (v : Bool) : (s.setOutOfSpec v).ie = s.ie := rfl
@[simp] theorem setOutOfSpec_key1 (s : State) (v : Bool) : (s.setOutOfSpec v).key1 = s.key1 := rfl
@[simp] theorem setOutOfSpec_vbk (s : State) (v : Bool) : (s.setOutOfSpec v).vbk = s.vbk := rfl
@[simp] theorem setOutOfSpec_svbk (s : State) (v : Bool) : (s.setOutOfSpec v).svbk = s.svbk := rfl
@[simp] theorem setOutOfSpec_mem (s : State) (v : Bool) : (s.setOutOfSpec v).mem = s.mem := rfl
@[simp] theorem setOutOfSpec_cart (s : State) (v : Bool) : (s.setOutOfSpec v).cart = s.cart := rfl
@[simp] theorem setOutOfSpec_lcdMode (s : State) (v : Bool) : (s.setOutOfSpec v).lcdMode = s.lcdMode := rfl
@[simp] theorem setOutOfSpec_oamDma (s : State) (v : Bool) : (s.setOutOfSpec v).oamDma = s.oamDma := rfl
@[simp] theorem setOutOfSpec_vramDma (s : State) (v : Bool) : (s.setOutOfSpec v).vramDma = s.vramDma := rfl
@[simp] theorem setOutOfSpec_devLog (s : State) (v : Bool) : (s.setOutOfSpec v).devLog = s.devLog := rfl
@[simp] theorem setOutOfSpec_queries (s : State) (v : Bool) : (s.setOutOfSpec v).queries = s.queries := rfl
@[simp] theorem setOutOfSpec_inbox (s : State) (v : Bool) : (s.setOutOfSpec v).inbox = s.inbox := rfl
@[simp] theorem setOutOfSpec_clk (s : State) (v : Bool) : (s.setOutOfSpec v).clk = s.clk := rfl
@[simp] theorem setOutOfSpec_outOfSpec (s : State) (v : Bool) : (s.setOutOfSpec v).outOfSpec = v := rfl
@[simp] theorem setOutOfSpec_cfg (s : State) (v : Bool) : (s.setOutOfSpec v).cfg = s.cfg := rfl

/-! ### Register updates reduce to `setRegs` -/

@[simp] theorem setA_eq (s : State) (v : Byte) : s.setA v = s.setRegs { s.regs with a := v } := rfl
@[simp] theorem setFlags_eq (s : State) (v : Flags) : s.setFlags v = s.setRegs { s.regs with f := v } := rfl
@[simp] theorem setSp_eq (s : State) (v : Word) : s.setSp v = s.setRegs { s.regs with sp := v } := rfl
@[simp] theorem setPc_eq (s : State) (v : Word) : s.setPc v = s.setRegs { s.regs with pc := v } := rfl
@[simp] theorem setR8_eq (s : State) (r : R8) (v : Byte) : s.setR8 r v = s.setRegs (s.regs.set8 r v) := rfl
@[simp] theorem setR16_eq (s : State) (p : R16) (v : Word) : s.setR16 p v = s.setRegs (s.regs.set16 p v) := rfl
@[simp] theorem setR16Stk_eq (s : State) (p : R16Stk) (v : Word) : s.setR16Stk p v = s.setRegs (s.regs.set16Stk p v) := rfl
@[simp] theorem setHl_eq (s : State) (v : Word) : s.setHl v = s.setRegs { s.regs with h := hi8 v, l := lo8 v } := rfl
@[simp] theorem setRegs_setRegs (s : State) (v w : Regs) : (s.setRegs v).setRegs w = s.setRegs w := rfl
@[simp] theorem setRegs_self (s : State) : s.setRegs s.regs = s := rfl

/-! ### Register operands -/

@[simp] theorem getR8_eq (s : State) (r : R8) : s.getR8 r = s.regs.get8 r := rfl
@[simp] theorem getR16_eq (s : State) (p : R16) : s.getR16 p = s.regs.get16 p := rfl
@[simp] theorem getR16Stk_eq (s : State) (p : R16Stk) : s.getR16Stk p = s.regs.get16Stk p := rfl
@[simp] theorem hl_eq (s : State) : s.hl = pair16 s.regs.h s.regs.l := rfl
@[simp] theorem bc_eq (s : State) : s.bc = pair16 s.regs.b s.regs.c := rfl
@[simp] theorem de_eq (s : State) : s.de = pair16 s.regs.d s.regs.e := rfl

theorem get8_set8_same (g : Regs) (r : R8) (v : Byte) : (g.set8 r v).get8 r = v := by cases r <;> rfl

theorem get8_set8_other (g : Regs) (r q : R8) (v : Byte) (h : q ≠ r) : (g.set8 r v).get8 q = g.get8 q := by
  cases r <;> cases q <;> first | rfl | exact absurd rfl h

theorem set8_f (g : Regs) (r : R8) (v : Byte) : (g.set8 r v).f = g.f := by cases r <;> rfl
theorem set8_sp (g : Regs) (r : R8) (v : Byte) : (g.set8 r v).sp = g.sp := by cases r <;> rfl
theorem set8_pc (g : Regs) (r : R8) (v : Byte) : (g.set8 r v).pc = g.pc := by cases r <;> rfl

theorem get16_set16_same (g : Regs) (p : R16) (v : Word) : (g.set16 p v).get16 p = v := by
  cases p <;> simp [Regs.get16, Regs.set16, pair16_hi8_lo8]

theorem set16_pc (g : Regs) (p : R16) (v : Word) : (g.set16 p v).pc = g.pc := by cases p <;> rfl

/-- F as a byte and back. -/
theorem ofByte_toByte (f : Flags) : Flags.ofByte f.toByte = f := by
  obtain ⟨z, n, h, c⟩ := f
  cases z <;> cases n <;> cases h <;> cases c <;> rfl

/-- A byte written to F reads back with bits 3 to 0 zero (R27). -/
theorem toByte_ofByte (v : Byte) : (Flags.ofByte v).toByte = v &&& 0xF0 := by
  revert v; decide

end Sys2Proof.Machine
end

