-- ==== Sys2Proof/Laws/Bus.lean ====
section
/-!
SUPPORT. What the access primitives can do, once for each: MemRead changes at most the free-byte counter; MemWrite
leaves the CPU alone; what either does at each place; and that different addresses select different bytes of RAM.
-/

namespace Sys2Proof.Machine

/-! ### Free bytes and pokes -/

@[simp] theorem drawByte_state (a : Word) (s : State) : (drawByte a s).2 = s.countQuery := rfl

@[simp] theorem poke_eq (k : Nat) (v : Byte) (s : State) : poke k v s = s.setMem (s.mem.write k v) := rfl

/-! ### MemRead -/

theorem deviceRead_state (a : Word) (s : State) : (deviceRead a s).2 = s.countQuery := by
  unfold deviceRead; dsimp only; split <;> rfl

/-- An access to an unmapped address changes the out-of-spec marker at most. -/
theorem touchUnmapped_state (s : State) : ∃ o, touchUnmapped s = s.setOutOfSpec o := by
  unfold touchUnmapped
  split
  · exact ⟨s.outOfSpec, rfl⟩
  · exact ⟨true, rfl⟩

@[simp] theorem touchUnmapped_mem (s : State) : (touchUnmapped s).mem = s.mem := by
  obtain ⟨o, h⟩ := touchUnmapped_state s; rw [h]; rfl

/-- A read leaves the machine as it was, but for the count of free bytes drawn and, at an unmapped address, the
out-of-spec marker. -/
theorem memRead_cases (a : Word) (s : State) :
    (memRead a s).2 = s ∨ (memRead a s).2 = s.countQuery ∨
      (place s a = .unmapped ∧ (memRead a s).2 = (touchUnmapped s).countQuery) := by
  unfold memRead
  split
  · exact .inr (.inl rfl)
  · split <;> first
      | exact .inl rfl
      | exact .inr (.inl rfl)
      | exact .inr (.inl (deviceRead_state a s))
      | exact .inr (.inr ⟨‹_›, rfl⟩)

/-- A read changes the count of free bytes drawn and the out-of-spec marker at most. -/
theorem memRead_state (a : Word) (s : State) :
    ∃ q o, (memRead a s).2 = { s with queries := q, outOfSpec := o } := by
  obtain h | h | ⟨_, h⟩ := memRead_cases a s
  · exact ⟨_, _, h⟩
  · exact ⟨_, _, h⟩
  · obtain ⟨o, ho⟩ := touchUnmapped_state s
    exact ⟨_, _, h.trans (by rw [ho]; rfl)⟩

/-- A read where `peek` sees a byte answers that byte and changes nothing. -/
theorem memRead_of_peek (a : Word) (s : State) (v : Byte) (h : peek s a = some v) : memRead a s = (v, s) := by
  unfold peek at h
  unfold memRead
  split at h
  · cases h
  · rename_i hd
    simp only [hd, if_false, Bool.false_eq_true]
    split at h <;> simp_all

/-- Fields that a read leaves alone. -/
theorem memRead_regs (a : Word) (s : State) : (memRead a s).2.regs = s.regs := by
  obtain ⟨q, o, h⟩ := memRead_state a s; rw [h]

theorem memRead_mem (a : Word) (s : State) : (memRead a s).2.mem = s.mem := by
  obtain ⟨q, o, h⟩ := memRead_state a s; rw [h]

theorem memRead_cfg (a : Word) (s : State) : (memRead a s).2.cfg = s.cfg := by
  obtain ⟨q, o, h⟩ := memRead_state a s; rw [h]

/-! ### OAM DMA -/

/-- The copy changes memory, the count of free bytes drawn and the out-of-spec marker, nothing else. -/
theorem copyToOam_state (v : Byte) (n : Nat) (s : State) :
    ∃ m q o, copyToOam v n s = { s with mem := m, queries := q, outOfSpec := o } := by
  induction n with
  | zero => exact ⟨s.mem, s.queries, s.outOfSpec, rfl⟩
  | succ n ih =>
    obtain ⟨m, q, o, h⟩ := ih
    unfold copyToOam
    simp only [h, poke_eq]
    obtain ⟨q', o', h'⟩ :=
      memRead_state (pair16 v (BitVec.ofNat 8 n)) { s with mem := m, queries := q, outOfSpec := o }
    rw [h']
    exact ⟨_, _, _, rfl⟩

theorem copyToOam_wf (v : Byte) (n : Nat) (s : State) (h : s.mem.wf = true) :
    (copyToOam v n s).mem.wf = true := by
  induction n with
  | zero => exact h
  | succ n ih =>
    unfold copyToOam
    simp only [poke_eq, setMem_mem]
    apply Memory.wf_write
    rw [memRead_mem]
    exact ih

/-- The copy changes bytes of OAM only. -/
theorem copyToOam_read (v : Byte) (n k : Nat) (s : State) (hk : k < 0xFE00 ∨ 0xFE00 + n ≤ k) :
    (copyToOam v n s).mem.read k = s.mem.read k := by
  induction n with
  | zero => rfl
  | succ n ih =>
    unfold copyToOam
    simp only [poke_eq, setMem_mem]
    rw [Memory.read_write_other _ _ _ _ (by omega), memRead_mem]
    exact ih (by omega)

/-! ### MemWrite -/

/-- What a device write can change besides the log: OAM and its DMA, KEY1, VBK, SVBK, the hold on VRAM; and what the
reads of an OAM DMA can. -/
theorem deviceWrite_state (a : Word) (v : Byte) (s : State) :
    ∃ m q o d k vb sv vd, deviceWrite a v s =
      { s with devLog := (a.toNat, v) :: s.devLog, mem := m, queries := q, outOfSpec := o, oamDma := d, key1 := k,
               vbk := vb, svbk := sv, vramDma := vd } := by
  unfold deviceWrite
  simp only
  split
  · obtain ⟨m, q, o, h⟩ := copyToOam_state v Config.oamDmaBytes (s.logWrite a v)
    simp only [startOamDma, h]
    exact ⟨_, _, _, _, _, _, _, _, rfl⟩
  all_goals exact ⟨_, _, _, _, _, _, _, _, rfl⟩

theorem cartCommand_state (s : State) (a : Word) (v : Byte) : ∃ c, cartCommand s a v = s.setCart c := by
  unfold cartCommand
  split
  · exact ⟨s.cart, rfl⟩
  · exact ⟨_, rfl⟩
  · exact ⟨_, rfl⟩

/-- Everything a write can change; the registers, IME, ei_delay, the mode, the LCD's lock, the inbox, the cycle
counter and the configuration are not among it. -/
theorem memWrite_state (a : Word) (v : Byte) (s : State) :
    ∃ i e k vb sv m c d vd l q o, memWrite a v s =
      { s with ifReg := i, ie := e, key1 := k, vbk := vb, svbk := sv, mem := m, cart := c, oamDma := d,
               vramDma := vd, devLog := l, queries := q, outOfSpec := o } := by
  unfold memWrite
  split
  · obtain ⟨c, h⟩ := cartCommand_state s a v
    rw [h]; exact ⟨_, _, _, _, _, _, _, _, _, _, _, _, rfl⟩
  · split <;> exact ⟨_, _, _, _, _, _, _, _, _, _, _, _, rfl⟩
  · exact ⟨_, _, _, _, _, _, _, _, _, _, _, _, rfl⟩
  · exact ⟨_, _, _, _, _, _, _, _, _, _, _, _, rfl⟩
  · exact ⟨_, _, _, _, _, _, _, _, _, _, _, _, rfl⟩
  · exact ⟨_, _, _, _, _, _, _, _, _, _, _, _, rfl⟩
  · obtain ⟨m, q, o, d, k, vb, sv, vd, h⟩ := deviceWrite_state a v s
    rw [h]; exact ⟨_, _, _, _, _, _, _, _, _, _, _, _, rfl⟩
  · exact ⟨_, _, _, _, _, _, _, _, _, _, _, _, rfl⟩
  · obtain ⟨o, h⟩ := touchUnmapped_state s
    rw [h]; exact ⟨_, _, _, _, _, _, _, _, _, _, _, _, rfl⟩

@[simp] theorem memWrite_regs (a : Word) (v : Byte) (s : State) : (memWrite a v s).regs = s.regs := by
  obtain ⟨i, e, k, vb, sv, m, c, d, vd, l, q, o, h⟩ := memWrite_state a v s; rw [h]

@[simp] theorem memWrite_ime (a : Word) (v : Byte) (s : State) : (memWrite a v s).ime = s.ime := by
  obtain ⟨i, e, k, vb, sv, m, c, d, vd, l, q, o, h⟩ := memWrite_state a v s; rw [h]

@[simp] theorem memWrite_eiDelay (a : Word) (v : Byte) (s : State) : (memWrite a v s).eiDelay = s.eiDelay := by
  obtain ⟨i, e, k, vb, sv, m, c, d, vd, l, q, o, h⟩ := memWrite_state a v s; rw [h]

@[simp] theorem memWrite_mode (a : Word) (v : Byte) (s : State) : (memWrite a v s).mode = s.mode := by
  obtain ⟨i, e, k, vb, sv, m, c, d, vd, l, q, o, h⟩ := memWrite_state a v s; rw [h]

@[simp] theorem memWrite_lcdMode (a : Word) (v : Byte) (s : State) : (memWrite a v s).lcdMode = s.lcdMode := by
  obtain ⟨i, e, k, vb, sv, m, c, d, vd, l, q, o, h⟩ := memWrite_state a v s; rw [h]

@[simp] theorem memWrite_inbox (a : Word) (v : Byte) (s : State) : (memWrite a v s).inbox = s.inbox := by
  obtain ⟨i, e, k, vb, sv, m, c, d, vd, l, q, o, h⟩ := memWrite_state a v s; rw [h]

@[simp] theorem memWrite_clk (a : Word) (v : Byte) (s : State) : (memWrite a v s).clk = s.clk := by
  obtain ⟨i, e, k, vb, sv, m, c, d, vd, l, q, o, h⟩ := memWrite_state a v s; rw [h]

@[simp] theorem memWrite_cfg (a : Word) (v : Byte) (s : State) : (memWrite a v s).cfg = s.cfg := by
  obtain ⟨i, e, k, vb, sv, m, c, d, vd, l, q, o, h⟩ := memWrite_state a v s; rw [h]

/-! ### The out-of-spec marker (R52) -/

/-- Under `UNMAPPED_ACCESS = oracle` the marker is clear. -/
def inSpec (s : State) : Prop := s.cfg.unmapped = .oracle → s.outOfSpec = false

theorem touchUnmapped_inSpec (s : State) (h : inSpec s) : inSpec (touchUnmapped s) := by
  unfold touchUnmapped
  split
  · exact h
  · rename_i hr
    exact fun ho => absurd (hr.symm.trans ho) (by decide)

theorem memRead_inSpec (a : Word) (s : State) (h : inSpec s) : inSpec (memRead a s).2 := by
  obtain e | e | ⟨_, e⟩ := memRead_cases a s <;> rw [e]
  · exact h
  · exact h
  · exact touchUnmapped_inSpec s h

theorem copyToOam_inSpec (v : Byte) (n : Nat) (s : State) (h : inSpec s) : inSpec (copyToOam v n s) := by
  induction n with
  | zero => exact h
  | succ n ih => exact memRead_inSpec _ _ ih

theorem memWrite_inSpec (a : Word) (v : Byte) (s : State) (h : inSpec s) : inSpec (memWrite a v s) := by
  unfold memWrite
  split
  · obtain ⟨c, hc⟩ := cartCommand_state s a v
    rw [hc]; exact h
  · split <;> exact h
  · exact h
  · exact h
  · exact h
  · exact h
  · unfold deviceWrite
    dsimp only
    split
    · have hc := copyToOam_inSpec v Config.oamDmaBytes (s.logWrite a v) h
      unfold startOamDma
      generalize copyToOam v Config.oamDmaBytes (s.logWrite a v) = t at hc
      exact hc
    all_goals exact h
  · exact h
  · exact touchUnmapped_inSpec s h

theorem memWrite_wf (a : Word) (v : Byte) (s : State) (h : s.mem.wf = true) :
    (memWrite a v s).mem.wf = true := by
  unfold memWrite
  split
  · obtain ⟨c, hc⟩ := cartCommand_state s a v
    rw [hc]; exact h
  · split <;> exact Memory.wf_write _ _ _ h
  · exact Memory.wf_write _ _ _ h
  · exact h
  · exact h
  · exact h
  · unfold deviceWrite
    simp only
    split
    · unfold startOamDma
      rw [setOamDma_mem]
      exact copyToOam_wf v _ _ h
    all_goals exact h
  · exact h
  · rw [touchUnmapped_mem]; exact h

/-- A write where `place` gives RAM the CPU can reach stores the byte and changes nothing else. -/
theorem memWrite_of_ram (a : Word) (v : Byte) (s : State) (k : Nat) (hp : place s a = .ram k)
    (hd : dmaHides s a = false) : memWrite a v s = poke k v s := by
  unfold memWrite
  simp [hp, hd]

/-! ### Places -/

theorem ramOrHeld_ram (held : Bool) (k q : Nat) (h : ramOrHeld held k = .ram q) : q = k := by
  unfold ramOrHeld at h
  split at h <;> simp_all

/-- The key of a byte of cartridge RAM names its offset. -/
theorem cartPlace_ram (s : State) (a : Word) (k : Nat) (h : cartPlace s a = .ram k) :
    ∃ o, cartWindow s a = .ram o ∧ k = bankKey (o / 8192) (0xA000 + o % 8192) := by
  unfold cartPlace at h
  split at h
  · rename_i o ho
    exact ⟨o, ho, by simpa using h.symm⟩
  all_goals simp at h

theorem ramWindow_offset (s : State) (bank : Nat) (a : Word) (o : Nat) (h : ramWindow s bank a = .ram o) :
    o % 8192 = (a.toNat - 0xA000) % 8192 := by
  unfold ramWindow at h
  dsimp only at h
  split at h
  · simp only [CartWindow.ram.injEq] at h
    omega
  · simp at h

theorem clockWindow_not_ram (s : State) (r : ClockReg) (o : Nat) : clockWindow s r ≠ .ram o := by
  unfold clockWindow; split <;> simp

theorem cartWindow_offset (s : State) (a : Word) (o : Nat) (h : cartWindow s a = .ram o) :
    o % 8192 = (a.toNat - 0xA000) % 8192 := by
  unfold cartWindow at h
  split at h
  · cases h
  · split at h
    · unfold mbc3Window at h
      simp only at h
      split at h <;>
        first
        | exact absurd h (clockWindow_not_ram _ _ _)
        | cases h
        | exact ramWindow_offset _ _ _ _ h
    · cases h
  · split at h
    · exact ramWindow_offset _ _ _ _ h
    · cases h

/-- The RAM an address selects stands at a key that gives the address back. -/
theorem place_ram_key (s : State) (a : Word) (k : Nat) (h : place s a = .ram k) : k % 65536 = a.toNat := by
  have ha : a.toNat < 65536 := a.isLt
  unfold place at h
  simp only at h
  split at h
  · cases h
  split at h
  · rw [ramOrHeld_ram _ _ _ h]; unfold bankKey; omega
  split at h
  · obtain ⟨o, ho, rfl⟩ := cartPlace_ram s a k h
    have := cartWindow_offset s a o ho
    unfold bankKey; omega
  split at h
  · simp only [Place.ram.injEq] at h; omega
  split at h
  · simp only [Place.ram.injEq] at h; unfold bankKey at h; omega
  split at h
  · cases h
  split at h
  · rw [ramOrHeld_ram _ _ _ h]; omega
  split at h
  · cases h
  split at h
  · cases h
  split at h
  · cases h
  split at h
  · simp only [Place.ram.injEq] at h; omega
  · cases h

/-- The ROM an address selects stands at a key of the ROM area. -/
theorem place_rom_key (s : State) (a : Word) (k : Nat) (h : place s a = .rom k) :
    a.toNat < 0x8000 ∧ k % 65536 < 0x8000 := by
  have ha : a.toNat < 65536 := a.isLt
  unfold place at h
  simp only at h
  split at h
  · rename_i hlt
    refine ⟨hlt, ?_⟩
    simp only [Place.rom.injEq] at h
    unfold romKey at h
    split at h
    · omega
    · split at h
      · omega
      · unfold bankKey at h; omega
  all_goals
    repeat' split at h
    all_goals first
      | cases h
      | (unfold ramOrHeld at h; split at h <;> cases h)
      | (unfold cartPlace at h; split at h <;> cases h)

/-- Below $8000 every address is ROM, and above none is (R51). -/
theorem place_rom_of_lt (s : State) (a : Word) (h : a.toNat < 0x8000) : place s a = .rom (romKey s a) := by
  unfold place; simp [h]

/-- `place` depends on the configuration, the banks, the controller and the locks only. -/
theorem place_setMem (s : State) (m : Memory) (a : Word) : place (s.setMem m) a = place s a := rfl

theorem place_setRegs (s : State) (g : Regs) (a : Word) : place (s.setRegs g) a = place s a := rfl

/-- After a write of RAM, the byte is there and every other address shows what it showed. -/
theorem peek_memWrite_ram (a b : Word) (v : Byte) (s : State) (k : Nat) (hp : place s a = .ram k)
    (hd : dmaHides s a = false) :
    peek (memWrite a v s) b = if b = a then some v else peek s b := by
  rw [memWrite_of_ram a v s k hp hd, poke_eq]
  unfold peek
  have hdm : dmaHides (s.setMem (s.mem.write k v)) b = dmaHides s b := rfl
  rw [hdm, place_setMem]
  by_cases hb : b = a
  · subst hb
    simp [hd, hp]
  · simp only [hb, if_false]
    split
    · rfl
    · split
      · rename_i q hq
        have h1 := (place_rom_key s b q hq).2
        have h2 := place_ram_key s a k hp
        have h3 : 0x8000 ≤ a.toNat := by
          by_contra hlt
          rw [place_rom_of_lt s a (by omega)] at hp
          cases hp
        rw [setMem_mem, Memory.read_write_other]
        intro e; subst e; omega
      · rename_i q hq
        have h1 := place_ram_key s b q hq
        have h2 := place_ram_key s a k hp
        rw [setMem_mem, Memory.read_write_other]
        intro e; subst e
        exact hb (BitVec.eq_of_toNat_eq (by omega))
      · rfl

end Sys2Proof.Machine
end

