-- ==== Sys2Proof/Laws/Decode.lean ====
section
/-!
SUPPORT. The first byte alone decides the length of an instruction (R90), and no instruction is longer than 3 bytes.
-/

namespace Sys2Proof

theorem size_decodeCB (op : Byte) : (decodeCB op).size = 2 := by
  revert op; decide

/-- The operand bytes do not change the size of what is decoded (R90). -/
theorem size_decodeBytes (b0 b1 b2 : Byte) : (decodeBytes b0 b1 b2).size = instrSize b0 := by
  have h0 : ∀ (op c d : Byte) (m n : Word), (decodeX0 op c m).size = (decodeX0 op d n).size := by
    intro op c d m n
    unfold decodeX0
    dsimp only
    split <;> first | rfl | (split <;> rfl)
  have h3 : ∀ (op c d : Byte) (m n : Word), (decodeX3 op c m).size = (decodeX3 op d n).size := by
    intro op c d m n
    unfold decodeX3
    dsimp only
    split <;> first | rfl | simp only [size_decodeCB]
  unfold instrSize decodeBytes
  split
  · exact h0 ..
  · rfl
  · rfl
  · exact h3 ..

theorem Instr.size_pos (i : Instr) : 1 ≤ i.size := by
  cases i <;> simp [Instr.size]

theorem Instr.size_le (i : Instr) : i.size ≤ 3 := by
  cases i <;> simp [Instr.size]

/-- A form of one byte looks at no operand byte, one of two bytes at byte 1 only: block x = 00. -/
theorem decodeX0_short (op c d : Byte) (m n : Word) :
    ((decodeX0 op c m).size = 1 → decodeX0 op c m = decodeX0 op d n) ∧
      ((decodeX0 op c m).size = 2 → decodeX0 op c m = decodeX0 op c n) := by
  unfold decodeX0
  dsimp only
  split <;> first | exact ⟨fun _ => rfl, fun _ => rfl⟩ | (simp [Instr.size]; done) | (split <;> simp [Instr.size])

/-- The same for block x = 11. -/
theorem decodeX3_short (op c d : Byte) (m n : Word) :
    ((decodeX3 op c m).size = 1 → decodeX3 op c m = decodeX3 op d n) ∧
      ((decodeX3 op c m).size = 2 → decodeX3 op c m = decodeX3 op c n) := by
  unfold decodeX3
  dsimp only
  split <;> first | exact ⟨fun _ => rfl, fun _ => rfl⟩ | (simp [Instr.size]; done) | simp [size_decodeCB]

/-- The bytes an instruction does not need are not looked at (R90). -/
theorem decodeBytes_short (b0 b1 b2 c1 c2 : Byte) :
    (instrSize b0 = 1 → decodeBytes b0 b1 b2 = decodeBytes b0 c1 c2) ∧
      (instrSize b0 = 2 → decodeBytes b0 b1 b2 = decodeBytes b0 b1 c2) := by
  rw [← size_decodeBytes b0 b1 b2]
  unfold decodeBytes
  split
  · exact ⟨(decodeX0_short ..).1, (decodeX0_short b0 b1 0 _ _).2⟩
  · exact ⟨fun _ => rfl, fun _ => rfl⟩
  · exact ⟨fun _ => rfl, fun _ => rfl⟩
  · exact ⟨(decodeX3_short ..).1, (decodeX3_short b0 b1 0 _ _).2⟩

/-- The length is 1, 2 or 3 (R90). -/
theorem instrSize_cases (b0 : Byte) : instrSize b0 = 1 ∨ instrSize b0 = 2 ∨ instrSize b0 = 3 := by
  have h1 := (decodeBytes b0 0 0).size_pos
  have h2 := (decodeBytes b0 0 0).size_le
  unfold instrSize
  omega

end Sys2Proof
end

