-- ==== Sys2Proof/Laws/Ops.lean ====
section
/-!
SUPPORT. The access primitives do not look at the registers, so they commute with register writes; what the stack
operations, the fetch, the interrupt entry and the return do, once for each, in terms of MemRead and MemWrite.
-/

namespace Sys2Proof.Machine

/-! ### Memory accesses and register writes commute -/

theorem drawByte_setRegs (a : Word) (s : State) (g : Regs) :
    drawByte a (s.setRegs g) = ((drawByte a s).1, (drawByte a s).2.setRegs g) := rfl

theorem deviceRead_setRegs (a : Word) (s : State) (g : Regs) :
    deviceRead a (s.setRegs g) = ((deviceRead a s).1, (deviceRead a s).2.setRegs g) := by
  unfold deviceRead
  simp only [setRegs_cfg, setRegs_key1, drawByte_setRegs]
  split <;> rfl

theorem touchUnmapped_setRegs (s : State) (g : Regs) :
    touchUnmapped (s.setRegs g) = (touchUnmapped s).setRegs g := by
  unfold touchUnmapped
  simp only [setRegs_cfg]
  split <;> rfl

theorem memRead_setRegs (a : Word) (s : State) (g : Regs) :
    memRead a (s.setRegs g) = ((memRead a s).1, (memRead a s).2.setRegs g) := by
  unfold memRead
  have hd : dmaHides (s.setRegs g) a = dmaHides s a := rfl
  rw [hd, place_setRegs]
  split
  · rfl
  · split <;> first
      | rfl
      | exact deviceRead_setRegs a s g
      | rw [touchUnmapped_setRegs, drawByte_setRegs]

theorem copyToOam_setRegs (v : Byte) (n : Nat) (s : State) (g : Regs) :
    copyToOam v n (s.setRegs g) = (copyToOam v n s).setRegs g := by
  induction n with
  | zero => rfl
  | succ n ih =>
    unfold copyToOam
    simp only [ih, memRead_setRegs]
    rfl

theorem deviceWrite_setRegs (a : Word) (v : Byte) (s : State) (g : Regs) :
    deviceWrite a v (s.setRegs g) = (deviceWrite a v s).setRegs g := by
  have hl : (s.setRegs g).logWrite a v = (s.logWrite a v).setRegs g := rfl
  unfold deviceWrite
  simp only [hl, setRegs_cfg]
  split
  · unfold startOamDma
    rw [copyToOam_setRegs]
    generalize copyToOam v Config.oamDmaBytes (s.logWrite a v) = t
    rfl
  all_goals rfl

theorem cartCommand_setRegs (a : Word) (v : Byte) (s : State) (g : Regs) :
    cartCommand (s.setRegs g) a v = (cartCommand s a v).setRegs g := by
  unfold cartCommand
  simp only [setRegs_cfg, setRegs_cart]
  split <;> rfl

/-- A write of memory and a write of registers commute. -/
theorem memWrite_setRegs (a : Word) (v : Byte) (s : State) (g : Regs) :
    memWrite a v (s.setRegs g) = (memWrite a v s).setRegs g := by
  unfold memWrite
  have hd : dmaHides (s.setRegs g) a = dmaHides s a := rfl
  rw [hd, place_setRegs]
  split
  · exact cartCommand_setRegs a v s g
  · split <;> rfl
  · rfl
  · rfl
  · rfl
  · rfl
  · exact deviceWrite_setRegs a v s g
  · rfl
  · exact touchUnmapped_setRegs s g

/-! ### Fetching (R73) -/

/-- Fetching a byte of plain memory: the byte there, and pc past it. -/
theorem fetch8_of_peek (s : State) (v : Byte) (h : peek s s.regs.pc = some v) :
    fetch8 s = (v, s.setPc (s.regs.pc + 1)) := by
  unfold fetch8; rw [memRead_of_peek _ _ _ h]

/-- Fetching an instruction whose bytes are plain memory: it is decoded and pc moves past them (R73, R90). -/
theorem fetchInstr_of_peek (s : State) (b0 b1 b2 : Byte) (h0 : peek s s.regs.pc = some b0)
    (h1 : 2 ≤ instrSize b0 → peek s (s.regs.pc + 1) = some b1)
    (h2 : 3 ≤ instrSize b0 → peek s (s.regs.pc + 2) = some b2) :
    fetchInstr s = (decodeBytes b0 b1 b2, s.setPc (s.regs.pc + BitVec.ofNat 16 (instrSize b0))) := by
  have e1 (h : 2 ≤ instrSize b0) :
      fetch8 (s.setPc (s.regs.pc + 1)) = (b1, (s.setPc (s.regs.pc + 1)).setPc (s.regs.pc + 1 + 1)) :=
    fetch8_of_peek (s.setPc (s.regs.pc + 1)) b1 (h1 h)
  have e2 (h : 3 ≤ instrSize b0) := fetch8_of_peek ((s.setPc (s.regs.pc + 1)).setPc (s.regs.pc + 1 + 1)) b2
    (by rw [show s.regs.pc + 2 = s.regs.pc + 1 + 1 by bv_omega] at h2; exact h2 h)
  unfold fetchInstr
  rw [fetch8_of_peek s b0 h0]
  obtain h | h | h := instrSize_cases b0 <;> simp only [h]
  · rw [(decodeBytes_short b0 b1 b2 0 0).1 h]; rfl
  · rw [e1 (by omega), (decodeBytes_short b0 b1 b2 0 0).2 h,
      show s.regs.pc + 1 + 1 = s.regs.pc + 2 by bv_omega]; rfl
  · rw [e1 (by omega)]
    dsimp only
    rw [e2 (by omega)]
    refine Prod.ext rfl ?_
    change s.setPc (s.regs.pc + 1 + 1 + 1) = s.setPc (s.regs.pc + 3)
    congr 1; bv_omega

/-- Fetching a byte changes pc, the count of free bytes drawn and the out-of-spec marker, and nothing else. -/
theorem fetch8_state (s : State) : ∃ p q o, (fetch8 s).2 = { s.setPc p with queries := q, outOfSpec := o } := by
  unfold fetch8
  obtain ⟨q, o, h⟩ := memRead_state s.regs.pc s
  exact ⟨s.regs.pc + 1, q, o, by simp only [h]; rfl⟩

/-- Fetching an instruction changes pc, the count of free bytes drawn and the out-of-spec marker, and nothing else. -/
theorem fetchInstr_state (s : State) :
    ∃ p q o, (fetchInstr s).2 = { s.setPc p with queries := q, outOfSpec := o } := by
  obtain ⟨p0, q0, o0, h0⟩ := fetch8_state s
  obtain ⟨p1, q1, o1, h1⟩ := fetch8_state (fetch8 s).2
  obtain ⟨p2, q2, o2, h2⟩ := fetch8_state (fetch8 (fetch8 s).2).2
  unfold fetchInstr
  dsimp only
  split
  · exact ⟨p0, q0, o0, h0⟩
  · exact ⟨p1, q1, o1, by rw [h1, h0]; rfl⟩
  · exact ⟨p2, q2, o2, by rw [h2, h1, h0]; rfl⟩

/-! ### The stack (R74) -/

theorem word_sub_one_sub_one (w : Word) : w - 1#16 - 1#16 = w - 2#16 := by bv_omega

theorem word_add_one_add_one (w : Word) : w + 1#16 + 1#16 = w + 2#16 := by bv_omega

/-- A push is two writes, the high byte at SP - 1 and then the low byte at SP - 2, and SP decremented by 2. -/
theorem push16_spec (v : Word) (s : State) :
    push16 v s = (memWrite (s.regs.sp - 2) (lo8 v) (memWrite (s.regs.sp - 1) (hi8 v) s)).setRegs
      { s.regs with sp := s.regs.sp - 2 } := by
  simp [push16, push8, memWrite_setRegs, word_sub_one_sub_one]

/-- A pop reads the low byte at SP and then the high byte at SP + 1; SP is incremented by 2. -/
theorem pop16_spec (s : State) :
    pop16 s =
      (pair16 (memRead (s.regs.sp + 1) (memRead s.regs.sp s).2).1 (memRead s.regs.sp s).1,
        (memRead (s.regs.sp + 1) (memRead s.regs.sp s).2).2.setRegs
          { s.regs with sp := s.regs.sp + 2 }) := by
  simp [pop16, pop8, memRead_setRegs, memRead_regs, word_add_one_add_one]

/-! ### Interrupts (R368, R320) -/

/-- Interrupt entry: IME, ei_delay and the served bit of IF cleared, pc pushed, pc at the vector. -/
theorem takeInterrupt_spec (k : Irq) (s : State) :
    takeInterrupt k s =
      (memWrite (s.regs.sp - 2) (lo8 s.regs.pc) (memWrite (s.regs.sp - 1) (hi8 s.regs.pc)
        ((s.setIme false false).setIf (s.ifReg &&& ~~~k.mask)))).setRegs
          { s.regs with sp := s.regs.sp - 2, pc := k.vector } := by
  simp [takeInterrupt, push16_spec]

/-- Returning from an interrupt is a pop of pc with IME set and ei_delay cleared. -/
theorem returnFromInterrupt_spec (s : State) :
    returnFromInterrupt s = (returnTo s).setIme true false := rfl

end Sys2Proof.Machine
end

