-- ==== Sys2Proof/Laws/Exec.lean ====
section
/-!
SUPPORT. What an instruction can do to the state: reads, writes, register writes and changes of IME, mode and KEY1, and
nothing else. A property that each of these keeps is kept by `exec`.
-/

namespace Sys2Proof.Machine

/-- A property of states that the building blocks of every meaning keep. -/
structure Keeps (P : State → Prop) : Prop where
  read : ∀ a s, P s → P (memRead a s).2
  write : ∀ a v s, P s → P (memWrite a v s)
  regs : ∀ g s, P s → P (s.setRegs g)
  ime : ∀ i e s, P s → P (s.setIme i e)
  mode : ∀ m s, P s → P (s.setMode m)
  key1 : ∀ k s, P s → P (s.setKey1 k)

variable {P : State → Prop}

theorem Keeps.fetchInstr (hP : Keeps P) (s : State) (h : P s) : P (fetchInstr s).2 := by
  have h8 : ∀ s, P s → P (fetch8 s).2 := fun s h => hP.regs _ _ (hP.read _ _ h)
  unfold Machine.fetchInstr
  dsimp only
  split
  · exact h8 _ h
  · exact h8 _ (h8 _ h)
  · exact h8 _ (h8 _ (h8 _ h))

/-- No building block sets the out-of-spec marker under `UNMAPPED_ACCESS = oracle`. -/
theorem keeps_inSpec : Keeps inSpec where
  read := memRead_inSpec
  write := memWrite_inSpec
  regs _ _ h := h
  ime _ _ _ h := h
  mode _ _ h := h
  key1 _ _ h := h

/-- What the building blocks keep, every instruction that answers a next state keeps. -/
theorem exec_keeps (hP : Keeps P) (i : Instr) (s t : State) (h : exec i s = .next t) (hs : P s) : P t := by
  have hw := hP.write
  have hr := hP.read
  have hg := hP.regs
  cases i
  case halt =>
    simp only [exec, execHalt] at h
    split at h
    · cases h
    · cases h; exact hP.mode _ _ hs
  case stop n =>
    simp only [exec, execStop] at h
    split at h
    · cases h; exact hP.key1 _ _ hs
    · split at h
      · cases h
      · cases h; exact hP.mode _ _ hs
  case ei =>
    simp only [exec, execEi] at h
    cases h
    split
    · exact hs
    · exact hP.ime _ _ _ hs
  all_goals
    simp only [
      exec, execAdcAHL, execAdcAN8, execAdcAR8, execAddAHL, execAddAN8, execAddAR8, execAddHLR16, execAddSPE8,
      execAndHL, execAndN8, execAndR8, execBitHL, execBitR8, execCallCC, execCallN16, execCcf, execCpHL,
      execCpN8, execCpR8, execCpl, execDaa, execDecHL, execDecR16, execDecR8, execDi, execIncHL, execIncR16,
      execIncR8, execJpCC, execJpHL, execJpN16, execJrCC, execJrE8, execLdAC, execLdAN16, execLdAR16, execLdCA,
      execLdHLN8, execLdHLR8, execLdHLSPE8, execLdN16A, execLdN16SP, execLdR16A, execLdR16N16, execLdR8HL,
      execLdR8N8, execLdR8R8, execLdSPHL, execLddAHL, execLddHLA, execLdhAN8, execLdhN8A, execLdiAHL,
      execLdiHLA, execNop, execOrHL, execOrN8, execOrR8, execPopR16, execPushR16, execResHL, execResR8, execRet,
      execRetCC, execReti, execRlHL, execRlR8, execRla, execRlcHL, execRlcR8, execRlca, execRrHL, execRrR8,
      execRra, execRrcHL, execRrcR8, execRrca, execRst, execSbcAHL, execSbcAN8, execSbcAR8, execScf, execSetHL,
      execSetR8, execSlaHL, execSlaR8, execSraHL, execSraR8, execSrlHL, execSrlR8, execSubHL, execSubN8,
      execSubR8, execSwapHL, execSwapR8, execUndefD3, execUndefDB, execUndefDD, execUndefE3, execUndefE4,
      execUndefEB, execUndefEC, execUndefED, execUndefF4, execUndefFC, execUndefFD, execXorHL, execXorN8,
      execXorR8, withHL, adcA, addA, andA, cpA, orA, sbcA, subA, xorA, setAFlags, modifyHL, modifyR8, rotateA,
      loadA, memWrite16, push16, push8, pop16, pop8, callTo, returnTo, returnFromInterrupt, jumpRelative,
      lockUp, setA_eq, setFlags_eq, setSp_eq, setPc_eq, setR8_eq, setR16_eq, setR16Stk_eq, setHl_eq,
      Host.Outcome.next.injEq] at h
    subst h
    try split
    all_goals
      repeat
        with_reducible first
          | exact hs
          | apply hg
          | apply hw
          | apply hr
          | apply hP.ime
          | apply hP.mode

end Sys2Proof.Machine
end

