-- ==== Sys2Proof/Laws/Cycle.lean ====
section
/-!
SUPPORT. What the devices and a step can do, said once: the fields that device events leave alone, the requests in their
order, and the five ways a step answers.
-/

namespace Sys2Proof.Machine

theorem setMode_self (s : State) (m : Mode) (h : s.mode = m) : s.setMode m = s := by
  subst h; rfl

/-! ### Requests (R366, R367) -/

theorem firstPending_zero : firstPending 0 = none := by decide

/-- A request is served exactly where one is set. -/
theorem firstPending_none_iff (p : BitVec 5) : firstPending p = none ↔ p = 0 := by
  revert p; decide

/-- The request served is set, and no request with a lower number is. -/
theorem firstPending_some (p : BitVec 5) (k : Irq) :
    firstPending p = some k ↔ p.getLsbD k.index = true ∧ ∀ j < k.index, p.getLsbD j = false := by
  revert p; cases k <;> decide

/-! ### Devices (R75, R364) -/

/-- A device event changes IF, the LCD mode, memory, the transfers in progress and the running clock at most. -/
theorem deliver_state (e : DevEvent) (s : State) :
    ∃ i l m o v c, deliver e s =
      { s with ifReg := i, lcdMode := l, mem := m, oamDma := o, vramDma := v, cart := { s.cart with live := c } } := by
  cases e <;> unfold deliver <;> dsimp only
  case depositOam off v => split <;> exact ⟨_, _, _, _, _, _, rfl⟩
  all_goals exact ⟨_, _, _, _, _, _, rfl⟩

theorem deliverAll_state (es : List DevEvent) (s : State) :
    ∃ i l m o v c, deliverAll es s =
      { s with ifReg := i, lcdMode := l, mem := m, oamDma := o, vramDma := v, cart := { s.cart with live := c } } := by
  induction es generalizing s with
  | nil => exact ⟨_, _, _, _, _, _, rfl⟩
  | cons e rest ih =>
    obtain ⟨i, l, m, o, v, c, h⟩ := deliver_state e s
    obtain ⟨i', l', m', o', v', c', h'⟩ := ih (deliver e s)
    exact ⟨i', l', m', o', v', c', by rw [deliverAll, h', h]⟩

/-- What the devices do before a step changes the inbox and what their events change. -/
theorem deliverInbox_state (s : State) :
    ∃ q i l m o v c, (deliverInbox s).2 =
      { s with inbox := q, ifReg := i, lcdMode := l, mem := m, oamDma := o, vramDma := v
               cart := { s.cart with live := c } } := by
  unfold deliverInbox
  split
  · exact ⟨s.inbox, s.ifReg, s.lcdMode, s.mem, s.oamDma, s.vramDma, s.cart.live, rfl⟩
  · rename_i es rest _
    obtain ⟨i, l, m, o, v, c, h⟩ := deliverAll_state es (s.setInbox rest)
    exact ⟨rest, i, l, m, o, v, c, h⟩

/-- A property that every device event and the taking of an inbox entry keep holds after what the devices do. -/
theorem deliverInbox_keeps {P : State → Prop} (he : ∀ e s, P s → P (deliver e s)) (hq : ∀ q s, P s → P (s.setInbox q))
    (s : State) (hs : P s) : P (deliverInbox s).2 := by
  have hall : ∀ es s, P s → P (deliverAll es s) := by
    intro es
    induction es with
    | nil => exact fun s h => h
    | cons e rest ih => exact fun s h => ih _ (he e s h)
  unfold deliverInbox
  split
  · exact hs
  · exact hall _ _ (hq _ _ hs)

/-! ### A step (R366) -/

/-- The state in which a step that idles in neither Stopped nor Halted serves a request or runs an instruction. -/
def awake (s : State) : State := wake (deliverInbox s).2

/-- What is done before an instruction or an interrupt entry changes the mode, the inbox, the out-of-spec marker and
what device events change. -/
theorem awake_state (s : State) :
    ∃ q i l m o v c, awake s =
      { s with mode := .running, outOfSpec := false, inbox := q, ifReg := i, lcdMode := l, mem := m, oamDma := o,
               vramDma := v, cart := { s.cart with live := c } } := by
  obtain ⟨q, i, l, m, o, v, c, hd⟩ := deliverInbox_state s
  exact ⟨q, i, l, m, o, v, c, by unfold awake; rw [hd]; rfl⟩

/-- A state goes on where its out-of-spec marker is clear. -/
theorem unlessOutOfSpec_next (s t : State) :
    unlessOutOfSpec s = .next t ↔ s.outOfSpec = false ∧ t = s := by
  unfold unlessOutOfSpec
  cases s.outOfSpec <;> simp [eq_comm]

/-- The one refusal of `unlessOutOfSpec`. -/
theorem unlessOutOfSpec_refused (s : State) (r : Refusal) :
    unlessOutOfSpec s = .refused r ↔ s.outOfSpec = true ∧ r = .unmappedAccess := by
  unfold unlessOutOfSpec
  cases s.outOfSpec <;> simp [eq_comm]

/-- A running machine with no interrupt due runs one instruction. -/
theorem serve_of_none_due (d : State) (hm : d.mode = .running) (hp : d.ime = false ∨ pending d = 0) :
    serve d = runInstr (wake d) := by
  have hi : (wake d).ime = d.ime := rfl
  have hq : pending (wake d) = pending d := rfl
  simp only [serve, hm, hi, hq, reduceCtorEq, false_and, if_false]
  obtain hp | hp := hp
  · simp only [hp]
  · simp only [hp, firstPending_zero]
    split <;> first | rfl | contradiction

/-- A machine with IME = 1 and a request pending takes the first one, halted or not. -/
theorem serve_of_due (d : State) (k : Irq) (hi : d.ime = true) (hk : firstPending (pending d) = some k) :
    serve d = unlessOutOfSpec (enterInterrupt k (wake d)) := by
  have hp : pending d ≠ 0 := by
    intro h; rw [h, firstPending_zero] at hk; cases hk
  have hi' : (wake d).ime = d.ime := rfl
  have hq : pending (wake d) = pending d := rfl
  simp only [serve, hp, and_false, if_false, hi', hq, hi, hk]

/-- A step of a machine that is neither locked nor stopped serves what the devices left. -/
theorem step_of_serving (s : State) (hl : s.mode ≠ .locked) (hs : s.mode ≠ .stopped) :
    step s = serve (deliverInbox s).2 := by
  obtain ⟨q, i, l, m, o, v, c, hd⟩ := deliverInbox_state s
  have hm : (deliverInbox s).2.mode = s.mode := by rw [hd]
  simp only [step, stepOnce, hl, if_false, hm, hs, false_and]

/-- What a step that gives a next state did: stayed locked; stayed stopped; stayed halted; took the first pending
interrupt; or ran an instruction. The last two met no unmapped address that stops the machine. -/
theorem step_next_cases (s t : State) (h : step s = .next t) :
    (s.mode = .locked ∧ t = s) ∨
    (s.mode = .stopped ∧ (deliverInbox s).1 = false ∧ t = (deliverInbox s).2) ∨
    (s.mode = .halted ∧ pending t = 0 ∧ t = (deliverInbox s).2) ∨
    (∃ k, s.mode ≠ .locked ∧ s.ime = true ∧ firstPending (pending (deliverInbox s).2) = some k ∧
      t = enterInterrupt k (awake s) ∧ t.outOfSpec = false) ∨
    (∃ u, s.mode ≠ .locked ∧ (fetchInstr (awake s)).2.outOfSpec = false ∧
      exec (fetchInstr (awake s)).1 (fetchInstr (awake s)).2 = .next u ∧
      t = finishInstr s.eiDelay (fetchInstr (awake s)).1 (clkOf (fetchInstr (awake s)).1 s.regs.f) u ∧
      t.outOfSpec = false) := by
  obtain ⟨q, i, l, m, o, v, c, hd⟩ := deliverInbox_state s
  have hmode : (deliverInbox s).2.mode = s.mode := by rw [hd]
  have hime : (wake (deliverInbox s).2).ime = s.ime := by rw [hd]; rfl
  have hei : (wake (deliverInbox s).2).eiDelay = s.eiDelay := by rw [hd]; rfl
  have hf : (wake (deliverInbox s).2).regs.f = s.regs.f := by rw [hd]; rfl
  simp only [step, stepOnce] at h
  split at h
  · exact .inl ⟨‹_›, (Host.Outcome.next.inj h).symm⟩
  · rename_i hl
    split at h
    · rename_i hst
      exact .inr (.inl ⟨hmode ▸ hst.1, hst.2, (Host.Outcome.next.inj h).symm⟩)
    · simp only [serve] at h
      split at h
      · rename_i hh
        obtain rfl := Host.Outcome.next.inj h
        exact .inr (.inr (.inl ⟨hmode ▸ hh.1, hh.2, rfl⟩))
      · split at h
        · rename_i k hi hk
          obtain ⟨ho, rfl⟩ := (unlessOutOfSpec_next _ _).1 h
          exact .inr (.inr (.inr (.inl ⟨k, hl, hime ▸ hi, hk, rfl, ho⟩)))
        · simp only [runInstr] at h
          split at h
          · cases h
          · rename_i hfo
            split at h
            · rename_i u hu
              obtain ⟨ho, rfl⟩ := (unlessOutOfSpec_next _ _).1 h
              rw [hei, hf] at ho ⊢
              exact .inr (.inr (.inr (.inr ⟨u, hl, Bool.eq_false_iff.2 hfo, hu, rfl, ho⟩)))
            · cases h
            · cases h

/-- What a refused step did: where no interrupt was due, the instruction fetched was refused; or an interrupt entry, a
fetch or the instruction fetched met an unmapped address that stops the machine. -/
theorem step_refused_cases (s : State) (r : Refusal) (h : step s = .refused r) :
    (exec (fetchInstr (awake s)).1 (fetchInstr (awake s)).2 = .refused r ∧
      (s.ime = false ∨ pending (deliverInbox s).2 = 0)) ∨
    (r = .unmappedAccess ∧
      ((∃ k, (enterInterrupt k (awake s)).outOfSpec = true) ∨ (fetchInstr (awake s)).2.outOfSpec = true ∨
        ∃ u, exec (fetchInstr (awake s)).1 (fetchInstr (awake s)).2 = .next u ∧
          (finishInstr s.eiDelay (fetchInstr (awake s)).1 (clkOf (fetchInstr (awake s)).1 s.regs.f) u).outOfSpec =
            true)) := by
  obtain ⟨q, i, l, m, o, v, c, hd⟩ := deliverInbox_state s
  have hime : (wake (deliverInbox s).2).ime = s.ime := by rw [hd]; rfl
  have hei : (wake (deliverInbox s).2).eiDelay = s.eiDelay := by rw [hd]; rfl
  have hf : (wake (deliverInbox s).2).regs.f = s.regs.f := by rw [hd]; rfl
  have hp : pending (wake (deliverInbox s).2) = pending (deliverInbox s).2 := rfl
  simp only [step, stepOnce] at h
  split at h
  · cases h
  · split at h
    · cases h
    · simp only [serve] at h
      split at h
      · cases h
      · split at h
        · rename_i k _ _
          obtain ⟨ho, rfl⟩ := (unlessOutOfSpec_refused _ _).1 h
          exact .inr ⟨rfl, .inl ⟨k, ho⟩⟩
        · rename_i hn
          simp only [runInstr] at h
          split at h
          · rename_i hfo
            obtain rfl := Host.Outcome.refused.inj h
            exact .inr ⟨rfl, .inr (.inl hfo)⟩
          · split at h
            · rename_i u hu
              obtain ⟨ho, rfl⟩ := (unlessOutOfSpec_refused _ _).1 h
              rw [hei, hf] at ho
              exact .inr ⟨rfl, .inr (.inr ⟨u, hu, ho⟩)⟩
            · cases h
            · rename_i r' hr
              obtain rfl := Host.Outcome.refused.inj h
              refine .inl ⟨hr, ?_⟩
              by_contra hc
              rw [not_or] at hc
              obtain ⟨h1, h2⟩ := hc
              cases hk : firstPending (pending (deliverInbox s).2) with
              | none => exact h2 ((firstPending_none_iff _).1 hk)
              | some k => exact hn k (by rw [hime]; simpa using h1) (by rw [hp]; exact hk)

end Sys2Proof.Machine
end

