-- ==== Sys2Proof/Laws/PerInstr.lean ====
section
/-!
SUPPORT. The family SizeEncode: the encoding of an instruction has exactly its size (30_encoding.md R115), one lemma
per constructor.
-/

namespace Sys2Proof.Laws.SizeEncode

/-- The encoding of `i` is as long as R115 says. -/
def Statement (i : Instr) : Prop := (encode i).length = i.size

theorem adcAHL : Statement (.adcAHL) := rfl
theorem adcAN8 (n : Byte) : Statement (.adcAN8 n) := rfl
theorem adcAR8 (r : R8) : Statement (.adcAR8 r) := rfl
theorem addAHL : Statement (.addAHL) := rfl
theorem addAN8 (n : Byte) : Statement (.addAN8 n) := rfl
theorem addAR8 (r : R8) : Statement (.addAR8 r) := rfl
theorem addHLR16 (p : R16) : Statement (.addHLR16 p) := rfl
theorem addSPE8 (e : Byte) : Statement (.addSPE8 e) := rfl
theorem andHL : Statement (.andHL) := rfl
theorem andN8 (n : Byte) : Statement (.andN8 n) := rfl
theorem andR8 (r : R8) : Statement (.andR8 r) := rfl
theorem bitHL (b : BitVec 3) : Statement (.bitHL b) := rfl
theorem bitR8 (b : BitVec 3) (r : R8) : Statement (.bitR8 b r) := rfl
theorem callCC (cc : Cond) (a : Word) : Statement (.callCC cc a) := rfl
theorem callN16 (a : Word) : Statement (.callN16 a) := rfl
theorem ccf : Statement (.ccf) := rfl
theorem cpHL : Statement (.cpHL) := rfl
theorem cpN8 (n : Byte) : Statement (.cpN8 n) := rfl
theorem cpR8 (r : R8) : Statement (.cpR8 r) := rfl
theorem cpl : Statement (.cpl) := rfl
theorem daa : Statement (.daa) := rfl
theorem decHL : Statement (.decHL) := rfl
theorem decR16 (p : R16) : Statement (.decR16 p) := rfl
theorem decR8 (r : R8) : Statement (.decR8 r) := rfl
theorem di : Statement (.di) := rfl
theorem ei : Statement (.ei) := rfl
theorem halt : Statement (.halt) := rfl
theorem incHL : Statement (.incHL) := rfl
theorem incR16 (p : R16) : Statement (.incR16 p) := rfl
theorem incR8 (r : R8) : Statement (.incR8 r) := rfl
theorem jpHL : Statement (.jpHL) := rfl
theorem jpCC (cc : Cond) (a : Word) : Statement (.jpCC cc a) := rfl
theorem jpN16 (a : Word) : Statement (.jpN16 a) := rfl
theorem jrCC (cc : Cond) (e : Byte) : Statement (.jrCC cc e) := rfl
theorem jrE8 (e : Byte) : Statement (.jrE8 e) := rfl
theorem ldCA : Statement (.ldCA) := rfl
theorem ldHLN8 (n : Byte) : Statement (.ldHLN8 n) := rfl
theorem ldHLR8 (r : R8) : Statement (.ldHLR8 r) := rfl
theorem ldN16A (a : Word) : Statement (.ldN16A a) := rfl
theorem ldN16SP (a : Word) : Statement (.ldN16SP a) := rfl
theorem ldR16A (p : R16Mem) : Statement (.ldR16A p) := rfl
theorem ldAC : Statement (.ldAC) := rfl
theorem ldAN16 (a : Word) : Statement (.ldAN16 a) := rfl
theorem ldAR16 (p : R16Mem) : Statement (.ldAR16 p) := rfl
theorem ldHLSPE8 (e : Byte) : Statement (.ldHLSPE8 e) := rfl
theorem ldR16N16 (p : R16) (n : Word) : Statement (.ldR16N16 p n) := rfl
theorem ldR8HL (dst : R8) : Statement (.ldR8HL dst) := rfl
theorem ldR8N8 (dst : R8) (n : Byte) : Statement (.ldR8N8 dst n) := rfl
theorem ldR8R8 (dst r : R8) : Statement (.ldR8R8 dst r) := rfl
theorem ldSPHL : Statement (.ldSPHL) := rfl
theorem lddHLA : Statement (.lddHLA) := rfl
theorem lddAHL : Statement (.lddAHL) := rfl
theorem ldhN8A (n : Byte) : Statement (.ldhN8A n) := rfl
theorem ldhAN8 (n : Byte) : Statement (.ldhAN8 n) := rfl
theorem ldiHLA : Statement (.ldiHLA) := rfl
theorem ldiAHL : Statement (.ldiAHL) := rfl
theorem nop : Statement (.nop) := rfl
theorem orHL : Statement (.orHL) := rfl
theorem orN8 (n : Byte) : Statement (.orN8 n) := rfl
theorem orR8 (r : R8) : Statement (.orR8 r) := rfl
theorem popR16 (p : R16Stk) : Statement (.popR16 p) := rfl
theorem pushR16 (p : R16Stk) : Statement (.pushR16 p) := rfl
theorem resHL (b : BitVec 3) : Statement (.resHL b) := rfl
theorem resR8 (b : BitVec 3) (r : R8) : Statement (.resR8 b r) := rfl
theorem ret : Statement (.ret) := rfl
theorem retCC (cc : Cond) : Statement (.retCC cc) := rfl
theorem reti : Statement (.reti) := rfl
theorem rlHL : Statement (.rlHL) := rfl
theorem rlR8 (r : R8) : Statement (.rlR8 r) := rfl
theorem rla : Statement (.rla) := rfl
theorem rlcHL : Statement (.rlcHL) := rfl
theorem rlcR8 (r : R8) : Statement (.rlcR8 r) := rfl
theorem rlca : Statement (.rlca) := rfl
theorem rrHL : Statement (.rrHL) := rfl
theorem rrR8 (r : R8) : Statement (.rrR8 r) := rfl
theorem rra : Statement (.rra) := rfl
theorem rrcHL : Statement (.rrcHL) := rfl
theorem rrcR8 (r : R8) : Statement (.rrcR8 r) := rfl
theorem rrca : Statement (.rrca) := rfl
theorem rst (f : Byte) : Statement (.rst f) := rfl
theorem sbcAHL : Statement (.sbcAHL) := rfl
theorem sbcAN8 (n : Byte) : Statement (.sbcAN8 n) := rfl
theorem sbcAR8 (r : R8) : Statement (.sbcAR8 r) := rfl
theorem scf : Statement (.scf) := rfl
theorem setHL (b : BitVec 3) : Statement (.setHL b) := rfl
theorem setR8 (b : BitVec 3) (r : R8) : Statement (.setR8 b r) := rfl
theorem slaHL : Statement (.slaHL) := rfl
theorem slaR8 (r : R8) : Statement (.slaR8 r) := rfl
theorem sraHL : Statement (.sraHL) := rfl
theorem sraR8 (r : R8) : Statement (.sraR8 r) := rfl
theorem srlHL : Statement (.srlHL) := rfl
theorem srlR8 (r : R8) : Statement (.srlR8 r) := rfl
theorem stop (n : Byte) : Statement (.stop n) := rfl
theorem subHL : Statement (.subHL) := rfl
theorem subN8 (n : Byte) : Statement (.subN8 n) := rfl
theorem subR8 (r : R8) : Statement (.subR8 r) := rfl
theorem swapHL : Statement (.swapHL) := rfl
theorem swapR8 (r : R8) : Statement (.swapR8 r) := rfl
theorem xorHL : Statement (.xorHL) := rfl
theorem xorN8 (n : Byte) : Statement (.xorN8 n) := rfl
theorem xorR8 (r : R8) : Statement (.xorR8 r) := rfl
theorem undefD3 : Statement (.undefD3) := rfl
theorem undefDB : Statement (.undefDB) := rfl
theorem undefDD : Statement (.undefDD) := rfl
theorem undefE3 : Statement (.undefE3) := rfl
theorem undefE4 : Statement (.undefE4) := rfl
theorem undefEB : Statement (.undefEB) := rfl
theorem undefEC : Statement (.undefEC) := rfl
theorem undefED : Statement (.undefED) := rfl
theorem undefF4 : Statement (.undefF4) := rfl
theorem undefFC : Statement (.undefFC) := rfl
theorem undefFD : Statement (.undefFD) := rfl

end Sys2Proof.Laws.SizeEncode
end

