-- ==== Sys2Proof/Laws/Run.lean ====
section
/-!
SUPPORT. What a run can come to: a completed run is a path of steps to the first state where EndOfRun holds, and a run
that reaches a locked state is never completed.
-/

namespace Sys2Proof.Machine

/-- `n` steps that each gave a next state lead from `s` to `t`, and `EndOfRun` held at none of the boundaries before
`t`. -/
def reachesUnended (e : EndOfRun) : Nat → State → State → Prop
  | 0, s, t => s = t
  | n + 1, s, t => runEnded e s = false ∧ ∃ u, step s = .next u ∧ reachesUnended e n u t

/-- `EndOfRun` never holds in a locked state. -/
theorem runEnded_locked (e : EndOfRun) (s : State) (h : s.mode = .locked) : runEnded e s = false := by
  simp [runEnded, h]

/-- A run of a locked machine stops there and is not completed. -/
theorem run_locked (e : EndOfRun) (n : Nat) (s : State) (h : s.mode = .locked) : run e n s = .locked s := by
  cases n <;> simp [run, runEnded_locked e s h, h]

/-- A run ends at once where `EndOfRun` holds. -/
theorem run_of_runEnded (e : EndOfRun) (n : Nat) (s : State) (h : runEnded e s = true) : run e n s = .ended s := by
  cases n <;> simp [run, h]

/-- A completed run ended at the first step boundary where `EndOfRun` held. -/
theorem run_ended (e : EndOfRun) (n : Nat) (s t : State) (h : run e n s = .ended t) :
    runEnded e t = true ∧ ∃ k ≤ n, reachesUnended e k s t := by
  induction n generalizing s with
  | zero =>
    simp only [run] at h
    split at h
    · cases h; exact ⟨‹_›, 0, le_refl 0, rfl⟩
    · split at h <;> cases h
  | succ n ih =>
    simp only [run] at h
    split at h
    · cases h; exact ⟨‹_›, 0, Nat.zero_le _, rfl⟩
    · rename_i he
      split at h
      · cases h
      · split at h
        · rename_i u hu
          obtain ⟨ht, k, hk, hr⟩ := ih u h
          exact ⟨ht, k + 1, Nat.succ_le_succ hk, Bool.eq_false_iff.2 he, u, hu, hr⟩
        · cases h
        · cases h

end Sys2Proof.Machine
end

