-- ==== Sys2Proof/Tests/Slice0.lean ====
section
/-!
SUPPORT. Tests: what the well-formedness check refuses, the words of the spec's encodings (30_encoding.md R101 to R107,
R119) and what they decode to, one or two vectors of 95_test_vectors.md for every instruction, and for every statement
with hypotheses a state and operands that meet them.
-/

namespace Sys2Proof.Tests

open Sys2Proof Sys2Proof.Machine

/-! ### Well-formedness -/

/-- RST's operand has bits 2 to 0 zero (R99). -/
theorem test_rst_low_bits_ill_formed : WellFormed (.rst 0x01) = false := by decide

/-- RST's operand has bits 7 and 6 zero (R99). -/
theorem test_rst_high_bits_ill_formed : WellFormed (.rst 0x40) = false ∧ WellFormed (.rst 0x80) = false := by decide

/-- The eight targets of RST are well-formed (R99). -/
theorem test_rst_targets_well_formed :
    ([0x00, 0x08, 0x10, 0x18, 0x20, 0x28, 0x30, 0x38] : List Byte).all (fun f => WellFormed (.rst f)) = true := by
  decide

/-! ### Decoding words written out from the spec's encodings -/

/-- 8-bit loads: `0x36 n8`, `01110sss`, `01ddd110`, `01dddsss`, `00ddd110 n8` and the fixed opcodes (R101, R102,
R104, R119). -/
theorem test_decode_load8 :
    decodeBytes 0b00110110 0xA5 0 = .ldHLN8 0xA5 ∧ decodeBytes 0b01110100 0 0 = .ldHLR8 .h ∧
    decodeBytes 0b01101110 0 0 = .ldR8HL .l ∧ decodeBytes 0b01010011 0 0 = .ldR8R8 .d .e ∧
    decodeBytes 0b00001110 0x34 0 = .ldR8N8 .c 0x34 ∧ decodeBytes 0b11101010 0x34 0xC2 = .ldN16A 0xC234 ∧
    decodeBytes 0b00010010 0 0 = .ldR16A .de ∧ decodeBytes 0b11111010 0x34 0xC2 = .ldAN16 0xC234 ∧
    decodeBytes 0b00001010 0 0 = .ldAR16 .bc ∧ decodeBytes 0b00110010 0 0 = .lddHLA ∧
    decodeBytes 0b00111010 0 0 = .lddAHL ∧ decodeBytes 0b00100010 0 0 = .ldiHLA ∧
    decodeBytes 0b00101010 0 0 = .ldiAHL ∧ decodeBytes 0b11100010 0 0 = .ldCA ∧
    decodeBytes 0b11110010 0 0 = .ldAC ∧ decodeBytes 0b11100000 0x80 0 = .ldhN8A 0x80 ∧
    decodeBytes 0b11110000 0x0F 0 = .ldhAN8 0x0F := by decide

/-- 16-bit loads and the stack: `00pp0001 n16`, `11pp0101`, `11pp0001` and the fixed opcodes. -/
theorem test_decode_load16 :
    decodeBytes 0b00110001 0xF0 0xDF = .ldR16N16 .sp 0xDFF0 ∧ decodeBytes 0b00001000 0x00 0xC0 = .ldN16SP 0xC000 ∧
    decodeBytes 0b11111000 0xFF 0 = .ldHLSPE8 0xFF ∧ decodeBytes 0b11111001 0 0 = .ldSPHL ∧
    decodeBytes 0b11110101 0 0 = .pushR16 .af ∧ decodeBytes 0b11010001 0 0 = .popR16 .de := by decide

/-- 8-bit arithmetic and logic: `10yyysss`, `10yyy110`, `11yyy110 n8` (R103), INC and DEC, and the fixed opcodes. -/
theorem test_decode_alu8 :
    decodeBytes 0b10000001 0 0 = .addAR8 .c ∧ decodeBytes 0b10000110 0 0 = .addAHL ∧
    decodeBytes 0b11000110 0xC6 0 = .addAN8 0xC6 ∧ decodeBytes 0b10001010 0 0 = .adcAR8 .d ∧
    decodeBytes 0b10001110 0 0 = .adcAHL ∧ decodeBytes 0b11001110 0x0F 0 = .adcAN8 0x0F ∧
    decodeBytes 0b10010011 0 0 = .subR8 .e ∧ decodeBytes 0b10010110 0 0 = .subHL ∧
    decodeBytes 0b11010110 0x3E 0 = .subN8 0x3E ∧ decodeBytes 0b10011100 0 0 = .sbcAR8 .h ∧
    decodeBytes 0b10011110 0 0 = .sbcAHL ∧ decodeBytes 0b11011110 0x0F 0 = .sbcAN8 0x0F ∧
    decodeBytes 0b10100101 0 0 = .andR8 .l ∧ decodeBytes 0b10100110 0 0 = .andHL ∧
    decodeBytes 0b11100110 0xF0 0 = .andN8 0xF0 ∧ decodeBytes 0b10101111 0 0 = .xorR8 .a ∧
    decodeBytes 0b10101110 0 0 = .xorHL ∧ decodeBytes 0b11101110 0xFF 0 = .xorN8 0xFF ∧
    decodeBytes 0b10110000 0 0 = .orR8 .b ∧ decodeBytes 0b10110110 0 0 = .orHL ∧
    decodeBytes 0b11110110 0x98 0 = .orN8 0x98 ∧ decodeBytes 0b10111000 0 0 = .cpR8 .b ∧
    decodeBytes 0b10111110 0 0 = .cpHL ∧ decodeBytes 0b11111110 0x3C 0 = .cpN8 0x3C ∧
    decodeBytes 0b00111100 0 0 = .incR8 .a ∧ decodeBytes 0b00110100 0 0 = .incHL ∧
    decodeBytes 0b00010101 0 0 = .decR8 .d ∧ decodeBytes 0b00110101 0 0 = .decHL ∧
    decodeBytes 0b00100111 0 0 = .daa ∧ decodeBytes 0b00101111 0 0 = .cpl ∧
    decodeBytes 0b00110111 0 0 = .scf ∧ decodeBytes 0b00111111 0 0 = .ccf := by decide

/-- 16-bit arithmetic: `00pp1001`, `00pp0011`, `00pp1011`, `0xE8 e8`. -/
theorem test_decode_alu16 :
    decodeBytes 0b00011001 0 0 = .addHLR16 .de ∧ decodeBytes 0b11101000 0xFE 0 = .addSPE8 0xFE ∧
    decodeBytes 0b00100011 0 0 = .incR16 .hl ∧ decodeBytes 0b00111011 0 0 = .decR16 .sp := by decide

/-- Rotates and shifts: the one-byte forms on A, and `0xCB` then `00yyyzzz` (R105). -/
theorem test_decode_rotate :
    decodeBytes 0b00000111 0 0 = .rlca ∧ decodeBytes 0b00010111 0 0 = .rla ∧ decodeBytes 0b00001111 0 0 = .rrca ∧
    decodeBytes 0b00011111 0 0 = .rra ∧ decodeBytes 0xCB 0b00000001 0 = .rlcR8 .c ∧
    decodeBytes 0xCB 0b00000110 0 = .rlcHL ∧ decodeBytes 0xCB 0b00001100 0 = .rrcR8 .h ∧
    decodeBytes 0xCB 0b00001110 0 = .rrcHL ∧ decodeBytes 0xCB 0b00010010 0 = .rlR8 .d ∧
    decodeBytes 0xCB 0b00010110 0 = .rlHL ∧ decodeBytes 0xCB 0b00011101 0 = .rrR8 .l ∧
    decodeBytes 0xCB 0b00011110 0 = .rrHL ∧ decodeBytes 0xCB 0b00100100 0 = .slaR8 .h ∧
    decodeBytes 0xCB 0b00100110 0 = .slaHL ∧ decodeBytes 0xCB 0b00101000 0 = .sraR8 .b ∧
    decodeBytes 0xCB 0b00101110 0 = .sraHL ∧ decodeBytes 0xCB 0b00110111 0 = .swapR8 .a ∧
    decodeBytes 0xCB 0b00110110 0 = .swapHL ∧ decodeBytes 0xCB 0b00111011 0 = .srlR8 .e ∧
    decodeBytes 0xCB 0b00111110 0 = .srlHL := by decide

/-- BIT, RES and SET: `0xCB` then `xxbbbzzz` (R99, R105). -/
theorem test_decode_bit :
    decodeBytes 0xCB 0b01111111 0 = .bitR8 7 .a ∧ decodeBytes 0xCB 0b01011110 0 = .bitHL 3 ∧
    decodeBytes 0xCB 0b10101001 0 = .resR8 5 .c ∧ decodeBytes 0xCB 0b10011110 0 = .resHL 3 ∧
    decodeBytes 0xCB 0b11000010 0 = .setR8 0 .d ∧ decodeBytes 0xCB 0b11111110 0 = .setHL 7 := by decide

/-- Control flow: `110cc010 n16`, `001cc000 e8`, `110cc100 n16`, `110cc000`, `11ttt111` and the fixed opcodes. -/
theorem test_decode_control :
    decodeBytes 0b11000011 0x50 0x01 = .jpN16 0x0150 ∧ decodeBytes 0b11011010 0x00 0x02 = .jpCC .c 0x0200 ∧
    decodeBytes 0b11101001 0 0 = .jpHL ∧ decodeBytes 0b00011000 0x80 0 = .jrE8 0x80 ∧
    decodeBytes 0b00110000 0x03 0 = .jrCC .nc 0x03 ∧ decodeBytes 0b11001101 0x34 0x12 = .callN16 0x1234 ∧
    decodeBytes 0b11000100 0x34 0x12 = .callCC .nz 0x1234 ∧ decodeBytes 0b11001001 0 0 = .ret ∧
    decodeBytes 0b11001000 0 0 = .retCC .z ∧ decodeBytes 0b11011001 0 0 = .reti ∧
    decodeBytes 0b11101111 0 0 = .rst 0x28 := by decide

/-- System instructions and the undefined opcodes (R112). -/
theorem test_decode_system :
    decodeBytes 0x00 0 0 = .nop ∧ decodeBytes 0xF3 0 0 = .di ∧ decodeBytes 0xFB 0 0 = .ei ∧
    decodeBytes 0x76 0 0 = .halt ∧ decodeBytes 0x10 0x01 0 = .stop 0x01 ∧
    decodeBytes 0xD3 0 0 = .undefD3 ∧ decodeBytes 0xDB 0 0 = .undefDB ∧ decodeBytes 0xDD 0 0 = .undefDD ∧
    decodeBytes 0xE3 0 0 = .undefE3 ∧ decodeBytes 0xE4 0 0 = .undefE4 ∧ decodeBytes 0xEB 0 0 = .undefEB ∧
    decodeBytes 0xEC 0 0 = .undefEC ∧ decodeBytes 0xED 0 0 = .undefED ∧ decodeBytes 0xF4 0 0 = .undefF4 ∧
    decodeBytes 0xFC 0 0 = .undefFC ∧ decodeBytes 0xFD 0 0 = .undefFD := by decide

/-- A list too short for its instruction is refused by name. -/
theorem test_decode_refuses_short_lists :
    decode [] = .error .empty ∧ decode [0xCB] = .error (.truncated 0xCB) ∧
    decode [0xC3, 0x50] = .error (.truncated 0xC3) := ⟨rfl, rfl, rfl⟩

/-- The table's numbering of a row of the second table and of one of the first (log 24). -/
theorem test_decode_table_words :
    decodeTableWord 16 0xCB37 = some (.swapR8 .a) ∧ decodeTableWord 24 0x0150C3 = some (.jpN16 0x0150) := by decide

/-! ### Vectors of 95_test_vectors.md, one step each -/

/-- The registers of the vectors: all zero, SP = $FFFE, pc = $0100. -/
def regs0 : Regs :=
  { a := 0, f := Flags.ofByte 0, b := 0, c := 0, d := 0, e := 0, h := 0, l := 0, sp := 0xFFFE, pc := 0x0100 }

/-- The start state of a vector, with the bytes that are not zero. -/
def vec (g : Regs) (mem : Memory) : State := { State.reset with regs := g, mem := mem, ifReg := 0 }

/-- The next state. -/
def stateAfter : Result → Option State
  | .next t => some t
  | _ => none

/-- The reason of a refusal. -/
def refusalOf : Result → Option Refusal
  | .refused r => some r
  | _ => none

/-- The registers after a step and the bytes at the keys watched. -/
def seen (keys : List Nat) (r : Result) : Option (Regs × List Byte) :=
  (stateAfter r).map fun t => (t.regs, keys.map t.mem.read)

/-- The registers, IME, ei_delay and the mode after a step. -/
def cpuAfter (r : Result) : Option (Regs × Bool × Bool × Mode) :=
  (stateAfter r).map fun t => (t.regs, t.ime, t.eiDelay, t.mode)

/-- Vector L8-4. -/
theorem test_ld_hl_n8 :
    seen [0xC000] (step (vec ({ regs0 with h := 0xC0 }) [(0x0100, 0x36), (0x0101, 0xA5)])) =
      some ({ regs0 with h := 0xC0, pc := 0x0102 }, [0xA5]) := by decide

/-- Vector L8-7. -/
theorem test_ld_r8_hl :
    seen [] (step (vec ({ regs0 with h := 0xC0 }) [(0x0100, 0x66), (0xC000, 0xD0)])) =
      some ({ regs0 with h := 0xD0, pc := 0x0101 }, []) := by decide

/-- Vector L8-9. -/
theorem test_ld_a_bc :
    seen [] (step (vec ({ regs0 with b := 0xC0, c := 0x10 }) [(0x0100, 0x0A), (0xC010, 0x77)])) =
      some ({ regs0 with a := 0x77, b := 0xC0, c := 0x10, pc := 0x0101 }, []) := by decide

/-- Vector L8-10. -/
theorem test_ld_a_de :
    seen [] (step (vec ({ regs0 with d := 0xC0, e := 0x11 }) [(0x0100, 0x1A), (0xC011, 0x88)])) =
      some ({ regs0 with a := 0x88, d := 0xC0, e := 0x11, pc := 0x0101 }, []) := by decide

/-- Vector L8-12. -/
theorem test_ld_a_n16 :
    seen [] (step (vec regs0 [(0x0100, 0xFA), (0x0101, 0x34), (0x0102, 0xC2), (0xC234, 0xEE)])) =
      some ({ regs0 with a := 0xEE, pc := 0x0103 }, []) := by decide

/-- Vector L8-13. -/
theorem test_ld_n16_a :
    seen [0xC234] (step (vec ({ regs0 with a := 0x99 }) [(0x0100, 0xEA), (0x0101, 0x34), (0x0102, 0xC2)])) =
      some ({ regs0 with a := 0x99, pc := 0x0103 }, [0x99]) := by decide

/-- Vector L8-17. -/
theorem test_ldd_a_hl :
    seen [] (step (vec regs0 [(0x0000, 0xC3), (0x0100, 0x3A)])) =
      some ({ regs0 with a := 0xC3, h := 0xFF, l := 0xFF, pc := 0x0101 }, []) := by decide

/-- Vector L8-18. -/
theorem test_ldh_n8_a :
    seen [0xFF80] (step (vec ({ regs0 with a := 0x5A }) [(0x0100, 0xE0), (0x0101, 0x80)])) =
      some ({ regs0 with a := 0x5A, pc := 0x0102 }, [0x5A]) := by decide

/-- Vector L8-19. -/
theorem test_ldh_a_n8 :
    seen [] (step (vec regs0 [(0x0100, 0xF0), (0x0101, 0x80), (0xFF80, 0xA5)])) =
      some ({ regs0 with a := 0xA5, pc := 0x0102 }, []) := by decide

/-- Vector L8-20. -/
theorem test_ld_c_a :
    seen [0xFF81] (step (vec ({ regs0 with a := 0x5A, c := 0x81 }) [(0x0100, 0xE2)])) =
      some ({ regs0 with a := 0x5A, c := 0x81, pc := 0x0101 }, [0x5A]) := by decide

/-- Vector L8-21. -/
theorem test_ld_a_c :
    seen [] (step ({ vec ({ regs0 with c := 0xFF }) [(0x0100, 0xF2)] with ie := 0x15 })) =
      some ({ regs0 with a := 0x15, c := 0xFF, pc := 0x0101 }, []) := by decide

/-- Vector L16-2. -/
theorem test_ld_n16_sp :
    seen [0xC000, 0xC001] (step (vec ({ regs0 with sp := 0xFFF8 }) [(0x0100, 0x08), (0x0102, 0xC0)])) =
      some ({ regs0 with sp := 0xFFF8, pc := 0x0103 }, [0xF8, 0xFF]) := by decide

/-- Vector L16-4. -/
theorem test_ld_sp_hl :
    seen [] (step (vec ({ regs0 with h := 0xC1 }) [(0x0100, 0xF9)])) =
      some ({ regs0 with h := 0xC1, sp := 0xC100, pc := 0x0101 }, []) := by decide

/-- Vector L16-5. -/
theorem test_ld_hl_sp_e8 :
    seen [] (step (vec ({ regs0 with f := Flags.ofByte 0xC0, sp := 0x00FF }) [(0x0100, 0xF8), (0x0101, 0x01)])) =
      some ({ regs0 with h := 0x01, f := Flags.ofByte 0x30, sp := 0x00FF, pc := 0x0102 }, []) := by decide

/-- Vector L16-6. -/
theorem test_ld_hl_sp_e8_minus :
    seen [] (step (vec ({ regs0 with sp := 0x0000 }) [(0x0100, 0xF8), (0x0101, 0xFF)])) =
      some ({ regs0 with h := 0xFF, l := 0xFF, sp := 0x0000, pc := 0x0102 }, []) := by decide

/-- Vector L16-11. -/
theorem test_push_bc :
    seen [0xC000, 0xC001] (step (vec ({ regs0 with b := 0x12, c := 0x34, sp := 0xC002 }) [(0x0100, 0xC5)])) =
      some ({ regs0 with b := 0x12, c := 0x34, sp := 0xC000, pc := 0x0101 }, [0x34, 0x12]) := by decide

/-- Vector L16-18. -/
theorem test_push_across_wrap :
    (stateAfter (step (vec ({ regs0 with b := 0xA1, c := 0xB2, sp := 0x0001 }) [(0x0100, 0xC5)]))).map (fun t => (t.regs, t.ie)) =
      some ({ regs0 with b := 0xA1, c := 0xB2, sp := 0xFFFF, pc := 0x0101 }, 0xB2) := by decide

/-- Vector L16-13. -/
theorem test_pop_bc :
    seen [] (step (vec ({ regs0 with sp := 0xC000 }) [(0x0100, 0xC1), (0xC000, 0xCD), (0xC001, 0xAB)])) =
      some ({ regs0 with b := 0xAB, c := 0xCD, sp := 0xC002, pc := 0x0101 }, []) := by decide

/-- Vector L16-14. -/
theorem test_pop_af :
    seen [] (step (vec ({ regs0 with sp := 0xC000 }) [(0x0100, 0xF1), (0xC000, 0xFF), (0xC001, 0x12)])) =
      some ({ regs0 with a := 0x12, f := Flags.ofByte 0xF0, sp := 0xC002, pc := 0x0101 }, []) := by decide

/-- Vector A8-1. -/
theorem test_add_n8 :
    seen [] (step (vec ({ regs0 with a := 0x3A }) [(0x0100, 0xC6), (0x0101, 0xC6)])) =
      some ({ regs0 with f := Flags.ofByte 0xB0, pc := 0x0102 }, []) := by decide

/-- Vector A8-5. -/
theorem test_add_r8 :
    seen [] (step (vec ({ regs0 with a := 0x88 }) [(0x0100, 0x87)])) =
      some ({ regs0 with a := 0x10, f := Flags.ofByte 0x30, pc := 0x0101 }, []) := by decide

/-- Vector A8-6. -/
theorem test_add_hl_mem :
    seen [] (step (vec ({ regs0 with a := 0x01, h := 0xC0 }) [(0x0100, 0x86), (0xC000, 0xFE)])) =
      some ({ regs0 with a := 0xFF, h := 0xC0, pc := 0x0101 }, []) := by decide

/-- Vector A8-7. -/
theorem test_adc_n8 :
    seen [] (step (vec ({ regs0 with a := 0xFF, f := Flags.ofByte 0x10 }) [(0x0100, 0xCE)])) =
      some ({ regs0 with f := Flags.ofByte 0xB0, pc := 0x0102 }, []) := by decide

/-- Vector A8-11. -/
theorem test_adc_r8 :
    seen [] (step (vec ({ regs0 with a := 0x80, f := Flags.ofByte 0x10 }) [(0x0100, 0x8F)])) =
      some ({ regs0 with a := 0x01, f := Flags.ofByte 0x10, pc := 0x0101 }, []) := by decide

/-- Vector A8-10. -/
theorem test_adc_hl_mem :
    seen [] (step (vec ({ regs0 with a := 0x10, h := 0xC0 }) [(0x0100, 0x8E), (0xC000, 0x20)])) =
      some ({ regs0 with a := 0x30, h := 0xC0, pc := 0x0101 }, []) := by decide

/-- Vector A8-13. -/
theorem test_sub_n8 :
    seen [] (step (vec regs0 [(0x0100, 0xD6), (0x0101, 0x01)])) =
      some ({ regs0 with a := 0xFF, f := Flags.ofByte 0x70, pc := 0x0102 }, []) := by decide

/-- Vector A8-15. -/
theorem test_sub_r8 :
    seen [] (step (vec ({ regs0 with a := 0x20, b := 0x30 }) [(0x0100, 0x90)])) =
      some ({ regs0 with a := 0xF0, b := 0x30, f := Flags.ofByte 0x50, pc := 0x0101 }, []) := by decide

/-- Vector A8-17. -/
theorem test_sub_hl_mem :
    seen [] (step (vec ({ regs0 with a := 0x80, h := 0xC0 }) [(0x0100, 0x96), (0xC000, 0x01)])) =
      some ({ regs0 with a := 0x7F, h := 0xC0, f := Flags.ofByte 0x60, pc := 0x0101 }, []) := by decide

/-- Vector A8-19. -/
theorem test_sbc_n8 :
    seen [] (step (vec ({ regs0 with a := 0x10, f := Flags.ofByte 0x10 }) [(0x0100, 0xDE), (0x0101, 0x0F)])) =
      some ({ regs0 with f := Flags.ofByte 0xE0, pc := 0x0102 }, []) := by decide

/-- Vector A8-20. -/
theorem test_sbc_r8 :
    seen [] (step (vec ({ regs0 with a := 0x3B, b := 0x2A, f := Flags.ofByte 0x10 }) [(0x0100, 0x98)])) =
      some ({ regs0 with a := 0x10, b := 0x2A, f := Flags.ofByte 0x40, pc := 0x0101 }, []) := by decide

/-- Vector A8-23. -/
theorem test_sbc_hl_mem :
    seen [] (step (vec ({ regs0 with h := 0xC0, f := Flags.ofByte 0x10 }) [(0x0100, 0x9E), (0xC000, 0xFF)])) =
      some ({ regs0 with h := 0xC0, f := Flags.ofByte 0xF0, pc := 0x0101 }, []) := by decide

/-- Vector A8-25. -/
theorem test_cp_n8 :
    seen [] (step (vec ({ regs0 with a := 0x3C }) [(0x0100, 0xFE), (0x0101, 0x40)])) =
      some ({ regs0 with a := 0x3C, f := Flags.ofByte 0x50, pc := 0x0102 }, []) := by decide

/-- Vector A8-27. -/
theorem test_cp_r8 :
    seen [] (step (vec ({ regs0 with b := 0x01 }) [(0x0100, 0xB8)])) =
      some ({ regs0 with b := 0x01, f := Flags.ofByte 0x70, pc := 0x0101 }, []) := by decide

/-- Vector A8-28. -/
theorem test_cp_hl_mem :
    seen [] (step (vec ({ regs0 with a := 0xFF, h := 0xC0 }) [(0x0100, 0xBE), (0xC000, 0xFF)])) =
      some ({ regs0 with a := 0xFF, h := 0xC0, f := Flags.ofByte 0xC0, pc := 0x0101 }, []) := by decide

/-- Vector A8-30. -/
theorem test_and_n8 :
    seen [] (step (vec ({ regs0 with a := 0x5A, f := Flags.ofByte 0x10 }) [(0x0100, 0xE6), (0x0101, 0x0F)])) =
      some ({ regs0 with a := 0x0A, f := Flags.ofByte 0x20, pc := 0x0102 }, []) := by decide

/-- Vector A8-34. -/
theorem test_and_r8 :
    seen [] (step (vec ({ regs0 with f := Flags.ofByte 0x50 }) [(0x0100, 0xA7)])) =
      some ({ regs0 with f := Flags.ofByte 0xA0, pc := 0x0101 }, []) := by decide

/-- Vector A8-33. -/
theorem test_and_hl_mem :
    seen [] (step (vec ({ regs0 with a := 0x3C, h := 0xC0 }) [(0x0100, 0xA6), (0xC000, 0x0F)])) =
      some ({ regs0 with a := 0x0C, h := 0xC0, f := Flags.ofByte 0x20, pc := 0x0101 }, []) := by decide

/-- Vector A8-35. -/
theorem test_or_n8 :
    seen [] (step (vec ({ regs0 with a := 0x50, f := Flags.ofByte 0xF0 }) [(0x0100, 0xF6), (0x0101, 0x0F)])) =
      some ({ regs0 with a := 0x5F, pc := 0x0102 }, []) := by decide

/-- Vector A8-38. -/
theorem test_or_r8 :
    seen [] (step (vec ({ regs0 with a := 0x5A, f := Flags.ofByte 0xF0 }) [(0x0100, 0xB7)])) =
      some ({ regs0 with a := 0x5A, pc := 0x0101 }, []) := by decide

/-- Vector A8-37. -/
theorem test_or_hl_mem :
    seen [] (step (vec ({ regs0 with a := 0x80, h := 0xC0 }) [(0x0100, 0xB6), (0xC000, 0x01)])) =
      some ({ regs0 with a := 0x81, h := 0xC0, pc := 0x0101 }, []) := by decide

/-- Vector A8-39. -/
theorem test_xor_n8 :
    seen [] (step (vec ({ regs0 with a := 0x5A }) [(0x0100, 0xEE), (0x0101, 0xFF)])) =
      some ({ regs0 with a := 0xA5, pc := 0x0102 }, []) := by decide

/-- Vector A8-40. -/
theorem test_xor_r8 :
    seen [] (step (vec ({ regs0 with a := 0x5A, b := 0x5A, f := Flags.ofByte 0x10 }) [(0x0100, 0xA8)])) =
      some ({ regs0 with b := 0x5A, f := Flags.ofByte 0x80, pc := 0x0101 }, []) := by decide

/-- Vector A8-41. -/
theorem test_xor_hl_mem :
    seen [] (step (vec ({ regs0 with a := 0xF0, h := 0xC0 }) [(0x0100, 0xAE), (0xC000, 0x0F)])) =
      some ({ regs0 with a := 0xFF, h := 0xC0, pc := 0x0101 }, []) := by decide

/-- Vector A8-43. -/
theorem test_inc_r8 :
    seen [] (step (vec ({ regs0 with a := 0xFF, f := Flags.ofByte 0x10 }) [(0x0100, 0x3C)])) =
      some ({ regs0 with f := Flags.ofByte 0xB0, pc := 0x0101 }, []) := by decide

/-- Vector A8-47. -/
theorem test_inc_hl_mem :
    seen [0xC000] (step (vec ({ regs0 with h := 0xC0, f := Flags.ofByte 0x10 }) [(0x0100, 0x34), (0xC000, 0xFF)])) =
      some ({ regs0 with h := 0xC0, f := Flags.ofByte 0xB0, pc := 0x0101 }, [0x00]) := by decide

/-- Vector A8-48. -/
theorem test_dec_r8 :
    seen [] (step (vec ({ regs0 with a := 0x01, f := Flags.ofByte 0x10 }) [(0x0100, 0x3D)])) =
      some ({ regs0 with f := Flags.ofByte 0xD0, pc := 0x0101 }, []) := by decide

/-- Vector A8-52. -/
theorem test_dec_hl_mem :
    seen [0xC000] (step (vec ({ regs0 with h := 0xC0 }) [(0x0100, 0x35)])) =
      some ({ regs0 with h := 0xC0, f := Flags.ofByte 0x60, pc := 0x0101 }, [0xFF]) := by decide

/-- Vector A8-53. -/
theorem test_cpl :
    seen [] (step (vec ({ regs0 with a := 0x35, f := Flags.ofByte 0x90 }) [(0x0100, 0x2F)])) =
      some ({ regs0 with a := 0xCA, f := Flags.ofByte 0xF0, pc := 0x0101 }, []) := by decide

/-- Vector A8-55. -/
theorem test_scf :
    seen [] (step (vec ({ regs0 with f := Flags.ofByte 0xE0 }) [(0x0100, 0x37)])) =
      some ({ regs0 with f := Flags.ofByte 0x90, pc := 0x0101 }, []) := by decide

/-- Vector A8-56. -/
theorem test_ccf :
    seen [] (step (vec ({ regs0 with f := Flags.ofByte 0xF0 }) [(0x0100, 0x3F)])) =
      some ({ regs0 with f := Flags.ofByte 0x80, pc := 0x0101 }, []) := by decide

/-- Vector A8-60. -/
theorem test_daa_add :
    seen [] (step (vec ({ regs0 with a := 0x9A }) [(0x0100, 0x27)])) =
      some ({ regs0 with f := Flags.ofByte 0x90, pc := 0x0101 }, []) := by decide

/-- Vector A8-65. -/
theorem test_daa_sub :
    seen [] (step (vec ({ regs0 with a := 0x0D, f := Flags.ofByte 0x60 }) [(0x0100, 0x27)])) =
      some ({ regs0 with a := 0x07, f := Flags.ofByte 0x40, pc := 0x0101 }, []) := by decide

/-- Vector A16-1. -/
theorem test_add_hl_r16 :
    seen [] (step (vec ({ regs0 with c := 0x01, h := 0x0F, l := 0xFF, f := Flags.ofByte 0x80 }) [(0x0100, 0x09)])) =
      some ({ regs0 with c := 0x01, h := 0x10, f := Flags.ofByte 0xA0, pc := 0x0101 }, []) := by decide

/-- Vector A16-5. -/
theorem test_add_hl_sp :
    seen [] (step (vec ({ regs0 with l := 0x01, sp := 0xFFFF }) [(0x0100, 0x39)])) =
      some ({ regs0 with f := Flags.ofByte 0x30, sp := 0xFFFF, pc := 0x0101 }, []) := by decide

/-- Vector A16-6. -/
theorem test_add_sp_e8 :
    seen [] (step (vec ({ regs0 with f := Flags.ofByte 0xC0, sp := 0xFFF8 }) [(0x0100, 0xE8), (0x0101, 0x08)])) =
      some ({ regs0 with f := Flags.ofByte 0x30, sp := 0x0000, pc := 0x0102 }, []) := by decide

/-- Vector A16-8. -/
theorem test_add_sp_e8_minus :
    seen [] (step (vec ({ regs0 with sp := 0xD000 }) [(0x0100, 0xE8), (0x0101, 0xFE)])) =
      some ({ regs0 with sp := 0xCFFE, pc := 0x0102 }, []) := by decide

/-- Vector RS-1. -/
theorem test_rlca :
    seen [] (step (vec ({ regs0 with a := 0x80, f := Flags.ofByte 0xE0 }) [(0x0100, 0x07)])) =
      some ({ regs0 with a := 0x01, f := Flags.ofByte 0x10, pc := 0x0101 }, []) := by decide

/-- Vector RS-3. -/
theorem test_rla :
    seen [] (step (vec ({ regs0 with a := 0x80, f := Flags.ofByte 0x10 }) [(0x0100, 0x17)])) =
      some ({ regs0 with a := 0x01, f := Flags.ofByte 0x10, pc := 0x0101 }, []) := by decide

/-- Vector RS-5. -/
theorem test_rrca :
    seen [] (step (vec ({ regs0 with a := 0x01 }) [(0x0100, 0x0F)])) =
      some ({ regs0 with a := 0x80, f := Flags.ofByte 0x10, pc := 0x0101 }, []) := by decide

/-- Vector RS-7. -/
theorem test_rra :
    seen [] (step (vec ({ regs0 with f := Flags.ofByte 0x10 }) [(0x0100, 0x1F)])) =
      some ({ regs0 with a := 0x80, pc := 0x0101 }, []) := by decide

/-- Vector RS-11. -/
theorem test_rlc_r8 :
    seen [] (step (vec ({ regs0 with f := Flags.ofByte 0x70 }) [(0x0100, 0xCB), (0x0101, 0x01)])) =
      some ({ regs0 with f := Flags.ofByte 0x80, pc := 0x0102 }, []) := by decide

/-- Vector RS-13. -/
theorem test_rlc_hl :
    seen [0xC000] (step (vec ({ regs0 with h := 0xC0 }) [(0x0100, 0xCB), (0x0101, 0x06), (0xC000, 0x85)])) =
      some ({ regs0 with h := 0xC0, f := Flags.ofByte 0x10, pc := 0x0102 }, [0x0B]) := by decide

/-- Vector RS-15. -/
theorem test_rl_r8 :
    seen [] (step (vec ({ regs0 with e := 0x7F, f := Flags.ofByte 0x10 }) [(0x0100, 0xCB), (0x0101, 0x13)])) =
      some ({ regs0 with e := 0xFF, pc := 0x0102 }, []) := by decide

/-- Vector RS-16. -/
theorem test_rl_hl :
    seen [0xC000] (step (vec ({ regs0 with h := 0xC0, f := Flags.ofByte 0x10 }) [(0x0100, 0xCB), (0x0101, 0x16)])) =
      some ({ regs0 with h := 0xC0, pc := 0x0102 }, [0x01]) := by decide

/-- Vector RS-17. -/
theorem test_rrc_r8 :
    seen [] (step (vec ({ regs0 with h := 0x01 }) [(0x0100, 0xCB), (0x0101, 0x0C)])) =
      some ({ regs0 with h := 0x80, f := Flags.ofByte 0x10, pc := 0x0102 }, []) := by decide

/-- Vector RS-18. -/
theorem test_rrc_hl :
    seen [0xC000] (step (vec ({ regs0 with h := 0xC0 }) [(0x0100, 0xCB), (0x0101, 0x0E), (0xC000, 0x02)])) =
      some ({ regs0 with h := 0xC0, pc := 0x0102 }, [0x01]) := by decide

/-- Vector RS-20. -/
theorem test_rr_r8 :
    seen [] (step (vec ({ regs0 with a := 0x02, f := Flags.ofByte 0x10 }) [(0x0100, 0xCB), (0x0101, 0x1F)])) =
      some ({ regs0 with a := 0x81, pc := 0x0102 }, []) := by decide

/-- Vector RS-21. -/
theorem test_rr_hl :
    seen [0xC000] (step (vec ({ regs0 with h := 0xC0, f := Flags.ofByte 0x10 }) [(0x0100, 0xCB), (0x0101, 0x1E), (0xC000, 0x01)])) =
      some ({ regs0 with h := 0xC0, f := Flags.ofByte 0x10, pc := 0x0102 }, [0x80]) := by decide

/-- Vector RS-22. -/
theorem test_sla_r8 :
    seen [] (step (vec ({ regs0 with h := 0x80 }) [(0x0100, 0xCB), (0x0101, 0x24)])) =
      some ({ regs0 with f := Flags.ofByte 0x90, pc := 0x0102 }, []) := by decide

/-- Vector RS-24. -/
theorem test_sla_hl :
    seen [0xC000] (step (vec ({ regs0 with h := 0xC0 }) [(0x0100, 0xCB), (0x0101, 0x26), (0xC000, 0xC1)])) =
      some ({ regs0 with h := 0xC0, f := Flags.ofByte 0x10, pc := 0x0102 }, [0x82]) := by decide

/-- Vector RS-25. -/
theorem test_sra_r8 :
    seen [] (step (vec ({ regs0 with l := 0x81 }) [(0x0100, 0xCB), (0x0101, 0x2D)])) =
      some ({ regs0 with l := 0xC0, f := Flags.ofByte 0x10, pc := 0x0102 }, []) := by decide

/-- Vector RS-28. -/
theorem test_sra_hl :
    seen [0xC000] (step (vec ({ regs0 with h := 0xC0 }) [(0x0100, 0xCB), (0x0101, 0x2E), (0xC000, 0x7E)])) =
      some ({ regs0 with h := 0xC0, pc := 0x0102 }, [0x3F]) := by decide

/-- Vector RS-30. -/
theorem test_srl_r8 :
    seen [] (step (vec ({ regs0 with b := 0xFF }) [(0x0100, 0xCB), (0x0101, 0x38)])) =
      some ({ regs0 with b := 0x7F, f := Flags.ofByte 0x10, pc := 0x0102 }, []) := by decide

/-- Vector RS-31. -/
theorem test_srl_hl :
    seen [0xC000] (step (vec ({ regs0 with h := 0xC0 }) [(0x0100, 0xCB), (0x0101, 0x3E), (0xC000, 0x80)])) =
      some ({ regs0 with h := 0xC0, pc := 0x0102 }, [0x40]) := by decide

/-- Vector RS-32. -/
theorem test_swap_r8 :
    seen [] (step (vec ({ regs0 with a := 0xF1, f := Flags.ofByte 0xF0 }) [(0x0100, 0xCB), (0x0101, 0x37)])) =
      some ({ regs0 with a := 0x1F, pc := 0x0102 }, []) := by decide

/-- Vector RS-34. -/
theorem test_swap_hl :
    seen [0xC000] (step (vec ({ regs0 with h := 0xC0 }) [(0x0100, 0xCB), (0x0101, 0x36), (0xC000, 0x0A)])) =
      some ({ regs0 with h := 0xC0, pc := 0x0102 }, [0xA0]) := by decide

/-- Vector RS-35. -/
theorem test_bit_r8 :
    seen [] (step (vec ({ regs0 with a := 0x80, f := Flags.ofByte 0x50 }) [(0x0100, 0xCB), (0x0101, 0x7F)])) =
      some ({ regs0 with a := 0x80, f := Flags.ofByte 0x30, pc := 0x0102 }, []) := by decide

/-- Vector RS-38. -/
theorem test_bit_hl :
    seen [] (step (vec ({ regs0 with h := 0xC0, f := Flags.ofByte 0x10 }) [(0x0100, 0xCB), (0x0101, 0x66), (0xC000, 0xEF)])) =
      some ({ regs0 with h := 0xC0, f := Flags.ofByte 0xB0, pc := 0x0102 }, []) := by decide

/-- Vector RS-40. -/
theorem test_res_r8 :
    seen [] (step (vec ({ regs0 with b := 0x80 }) [(0x0100, 0xCB), (0x0101, 0xB8)])) =
      some ({ regs0 with pc := 0x0102 }, []) := by decide

/-- Vector RS-41. -/
theorem test_res_hl :
    seen [0xC000] (step (vec ({ regs0 with h := 0xC0 }) [(0x0100, 0xCB), (0x0101, 0x9E), (0xC000, 0xFF)])) =
      some ({ regs0 with h := 0xC0, pc := 0x0102 }, [0xF7]) := by decide

/-- Vector RS-43. -/
theorem test_set_r8 :
    seen [] (step (vec regs0 [(0x0100, 0xCB), (0x0101, 0xFF)])) =
      some ({ regs0 with a := 0x80, pc := 0x0102 }, []) := by decide

/-- Vector RS-45. -/
theorem test_set_hl :
    seen [0xC000] (step (vec ({ regs0 with h := 0xC0, f := Flags.ofByte 0xF0 }) [(0x0100, 0xCB), (0x0101, 0xFE)])) =
      some ({ regs0 with h := 0xC0, f := Flags.ofByte 0xF0, pc := 0x0102 }, [0x80]) := by decide

/-- Vector CT-1. -/
theorem test_jp_n16 :
    seen [] (step (vec regs0 [(0x0100, 0xC3), (0x0101, 0x50), (0x0102, 0x01)])) =
      some ({ regs0 with pc := 0x0150 }, []) := by decide

/-- Vector CT-2. -/
theorem test_jp_cc_taken :
    seen [] (step (vec regs0 [(0x0100, 0xC2), (0x0102, 0x02)])) =
      some ({ regs0 with pc := 0x0200 }, []) := by decide

/-- Vector CT-5. -/
theorem test_jp_cc_untaken :
    seen [] (step (vec ({ regs0 with f := Flags.ofByte 0x10 }) [(0x0100, 0xD2), (0x0102, 0x02)])) =
      some ({ regs0 with f := Flags.ofByte 0x10, pc := 0x0103 }, []) := by decide

/-- Vector CT-7. -/
theorem test_jp_hl :
    seen [] (step (vec ({ regs0 with h := 0xC1, l := 0x23 }) [(0x0100, 0xE9)])) =
      some ({ regs0 with h := 0xC1, l := 0x23, pc := 0xC123 }, []) := by decide

/-- Vector CT-10. -/
theorem test_jr_e8 :
    seen [] (step (vec regs0 [(0x0100, 0x18), (0x0101, 0x80)])) =
      some ({ regs0 with pc := 0x0082 }, []) := by decide

/-- Vector CT-16. -/
theorem test_jr_cc_taken :
    seen [] (step (vec ({ regs0 with f := Flags.ofByte 0x10 }) [(0x0100, 0x38), (0x0101, 0xFB)])) =
      some ({ regs0 with f := Flags.ofByte 0x10, pc := 0x00FD }, []) := by decide

/-- Vector CT-13. -/
theorem test_jr_cc_untaken :
    seen [] (step (vec ({ regs0 with f := Flags.ofByte 0x80 }) [(0x0100, 0x20), (0x0101, 0x03)])) =
      some ({ regs0 with f := Flags.ofByte 0x80, pc := 0x0102 }, []) := by decide

/-- Vector CT-18. -/
theorem test_call_n16 :
    seen [0xCFFE, 0xCFFF] (step (vec ({ regs0 with sp := 0xD000 }) [(0x0100, 0xCD), (0x0101, 0x34), (0x0102, 0x12)])) =
      some ({ regs0 with sp := 0xCFFE, pc := 0x1234 }, [0x03, 0x01]) := by decide

/-- Vector CT-20. -/
theorem test_call_cc_taken :
    seen [0xCFFE, 0xCFFF] (step (vec ({ regs0 with f := Flags.ofByte 0x10, sp := 0xD000 }) [(0x0100, 0xDC), (0x0101, 0x34), (0x0102, 0x12)])) =
      some ({ regs0 with f := Flags.ofByte 0x10, sp := 0xCFFE, pc := 0x1234 }, [0x03, 0x01]) := by decide

/-- Vector CT-19. -/
theorem test_call_cc_untaken :
    seen [0xCFFE, 0xCFFF] (step (vec ({ regs0 with f := Flags.ofByte 0x80, sp := 0xD000 }) [(0x0100, 0xC4), (0x0101, 0x34), (0x0102, 0x12)])) =
      some ({ regs0 with f := Flags.ofByte 0x80, sp := 0xD000, pc := 0x0103 }, [0x00, 0x00]) := by decide

/-- Vector CT-21. -/
theorem test_ret :
    seen [] (step (vec ({ regs0 with sp := 0xCFFE }) [(0x0100, 0xC9), (0xCFFE, 0x03), (0xCFFF, 0x01)])) =
      some ({ regs0 with sp := 0xD000, pc := 0x0103 }, []) := by decide

/-- Vector CT-23. -/
theorem test_ret_cc_taken :
    seen [] (step (vec ({ regs0 with sp := 0xCFFE }) [(0x0100, 0xD0), (0xCFFE, 0x78), (0xCFFF, 0x56)])) =
      some ({ regs0 with sp := 0xD000, pc := 0x5678 }, []) := by decide

/-- Vector CT-22. -/
theorem test_ret_cc_untaken :
    seen [] (step (vec ({ regs0 with f := Flags.ofByte 0x80, sp := 0xCFFE }) [(0x0100, 0xC0), (0xCFFE, 0x03), (0xCFFF, 0x01)])) =
      some ({ regs0 with f := Flags.ofByte 0x80, sp := 0xCFFE, pc := 0x0101 }, []) := by decide

/-- Vector CT-26. -/
theorem test_reti :
    cpuAfter (step (vec ({ regs0 with sp := 0xCFFE }) [(0x0100, 0xD9), (0xCFFE, 0x78), (0xCFFF, 0x56)])) =
      some ({ regs0 with sp := 0xD000, pc := 0x5678 }, true, false, .running) := by decide

/-- Vector CT-27. -/
theorem test_rst :
    seen [0xCFFE, 0xCFFF] (step (vec ({ regs0 with sp := 0xD000 }) [(0x0100, 0xEF)])) =
      some ({ regs0 with sp := 0xCFFE, pc := 0x0028 }, [0x01, 0x01]) := by decide

/-- Vector SY-1. -/
theorem test_nop :
    seen [] (step (vec regs0 [])) =
      some ({ regs0 with pc := 0x0101 }, []) := by decide

/-- Vector SY-2. -/
theorem test_di :
    cpuAfter (step ({ vec regs0 [(0x0100, 0xF3)] with ime := true })) =
      some ({ regs0 with pc := 0x0101 }, false, false, .running) := by decide

/-- Vector SY-3. -/
theorem test_ei :
    cpuAfter (step (vec regs0 [(0x0100, 0xFB)])) =
      some ({ regs0 with pc := 0x0101 }, false, true, .running) := by decide

/-- Vector SY-7. -/
theorem test_halt :
    cpuAfter (step ({ vec regs0 [(0x0100, 0x76)] with ime := true })) =
      some ({ regs0 with pc := 0x0101 }, true, false, .halted) := by decide

/-- Vector SY-11. -/
theorem test_stop :
    cpuAfter (step (vec regs0 [(0x0100, 0x10)])) =
      some ({ regs0 with pc := 0x0102 }, false, false, .stopped) := by decide

/-- Vector SY-13. -/
theorem test_undefined_opcode :
    cpuAfter (step (vec regs0 [(0x0100, 0xD3)])) =
      some ({ regs0 with pc := 0x0101 }, false, false, .locked) := by decide

/-- First step of L8-5. -/
theorem test_ld_hl_r8 :
    seen [0xC000] (step (vec ({ regs0 with b := 0x22, h := 0xC0 }) [(0x0100, 0x70)])) =
      some ({ regs0 with b := 0x22, h := 0xC0, pc := 0x0101 }, [0x22]) := by decide

/-- First step of L8-11. -/
theorem test_ld_bc_a :
    seen [0xC020] (step (vec ({ regs0 with a := 0x3C, b := 0xC0, c := 0x20 }) [(0x0100, 0x02)])) =
      some ({ regs0 with a := 0x3C, b := 0xC0, c := 0x20, pc := 0x0101 }, [0x3C]) := by decide

/-- Second step of L8-11. -/
theorem test_ld_de_a :
    seen [0xC021] (step (vec ({ regs0 with a := 0x3C, d := 0xC0, e := 0x21 }) [(0x0100, 0x12)])) =
      some ({ regs0 with a := 0x3C, d := 0xC0, e := 0x21, pc := 0x0101 }, [0x3C]) := by decide

/-- First step of L8-1. -/
theorem test_ld_r8_n8 :
    seen [] (step (vec regs0 [(0x0100, 0x06), (0x0101, 0x12)])) =
      some ({ regs0 with b := 0x12, pc := 0x0102 }, []) := by decide

/-- First step of L8-2. -/
theorem test_ld_r8_r8 :
    seen [] (step (vec ({ regs0 with b := 0x22, c := 0x33 }) [(0x0100, 0x41)])) =
      some ({ regs0 with b := 0x33, c := 0x33, pc := 0x0101 }, []) := by decide

/-- First step of L8-16. -/
theorem test_ldd_hl_a :
    seen [0xC100] (step (vec ({ regs0 with a := 0x01, h := 0xC1 }) [(0x0100, 0x32)])) =
      some ({ regs0 with a := 0x01, h := 0xC0, l := 0xFF, pc := 0x0101 }, [0x01]) := by decide

/-- Second step of L8-14. -/
theorem test_ldi_hl_a :
    seen [0xC0FF] (step (vec ({ regs0 with a := 0x7E, h := 0xC0, l := 0xFF }) [(0x0100, 0x22)])) =
      some ({ regs0 with a := 0x7E, h := 0xC1, pc := 0x0101 }, [0x7E]) := by decide

/-- Second step of L8-15. -/
theorem test_ldi_a_hl :
    seen [] (step (vec regs0 [(0x0000, 0xC3), (0x0100, 0x2A)])) =
      some ({ regs0 with a := 0xC3, l := 0x01, pc := 0x0101 }, []) := by decide

/-- First step of L16-1. -/
theorem test_ld_r16_n16 :
    seen [] (step (vec regs0 [(0x0100, 0x01), (0x0101, 0x34), (0x0102, 0x12)])) =
      some ({ regs0 with b := 0x12, c := 0x34, pc := 0x0103 }, []) := by decide

/-- Fourth step of A16-11. -/
theorem test_inc_r16 :
    seen [] (step (vec ({ regs0 with f := Flags.ofByte 0xF0, sp := 0xFFFF }) [(0x0100, 0x33)])) =
      some ({ regs0 with f := Flags.ofByte 0xF0, sp := 0x0000, pc := 0x0101 }, []) := by decide

/-- Second step of A16-12. -/
theorem test_dec_r16 :
    seen [] (step (vec ({ regs0 with d := 0x01 }) [(0x0100, 0x1B)])) =
      some ({ regs0 with e := 0xFF, pc := 0x0101 }, []) := by decide

/-- Vector SY-9: HALT with IME = 0 and an enabled request pending. -/
theorem test_halt_refused :
    refusalOf (step { vec regs0 [(0x0100, 0x76)] with ifReg := 0x01, ie := 0x01 }) = some .haltPending := by decide

/-- Vector SY-12: STOP with an enabled request pending. -/
theorem test_stop_refused :
    refusalOf (step { vec regs0 [(0x0100, 0x10)] with ifReg := 0x10, ie := 0x10 }) = some .stopPending := by decide

/-- Vector L8-22, its second instruction: IF keeps five bits and reads back with the other three set. -/
theorem test_if_reads_back :
    let t := memWrite 0xFF0F 0xFF (vec regs0 [])
    t.ifReg = 0x1F ∧ (memRead 0xFF0F t).1 = 0xFF := by decide

/-- Trace I1, step 1: all five requests pending, request 0 is served, $0150 pushed. -/
theorem test_interrupt_entry :
    (stateAfter (step { vec { regs0 with sp := 0xD000, pc := 0x0150 } [] with
        ime := true, ifReg := 0x1F, ie := 0x1F })).map
      (fun t => (t.regs, t.ime, t.ifReg, [0xCFFE, 0xCFFF].map t.mem.read)) =
      some ({ regs0 with sp := 0xCFFE, pc := 0x0040 }, false, 0x1E, [0x50, 0x01]) := by decide

/-- Trace I2, step 2: the instruction after EI runs and leaves IME set. -/
theorem test_ei_takes_effect :
    cpuAfter (step { vec { regs0 with pc := 0x0101 } [(0x0101, 0x3C)] with
        eiDelay := true, ifReg := 0x04, ie := 0x04 }) =
      some ({ regs0 with a := 0x01, pc := 0x0102 }, true, false, .running) := by decide

/-- Trace I3, step 3: a request that the devices raise between steps ends HALT and is served in the same step. -/
theorem test_halt_wakes :
    cpuAfter (step { vec { regs0 with sp := 0xD000, pc := 0x0101 } [] with
        ime := true, ie := 0x01, mode := .halted, inbox := [[.request .vblank]] }) =
      some ({ regs0 with sp := 0xCFFE, pc := 0x0040 }, false, false, .running) := by decide

/-- Vectors with a Clk column (70_reset_and_hazards.md R462): CALL 6, an untaken RET cc 2, LD (n16),SP 5, RES on (HL) 4,
NOP 1, and 5 for an interrupt entry (R464). -/
theorem test_clk :
    (stateAfter (step (vec regs0 [(0x0100, 0xCD)]))).map State.clk = some 6 ∧
    (stateAfter (step (vec regs0 [(0x0100, 0xC8)]))).map State.clk = some 2 ∧
    (stateAfter (step (vec regs0 [(0x0100, 0x08), (0x0102, 0xC0)]))).map State.clk = some 5 ∧
    (stateAfter (step (vec { regs0 with h := 0xC0 } [(0x0100, 0xCB), (0x0101, 0x86)]))).map State.clk = some 4 ∧
    (stateAfter (step (vec regs0 []))).map State.clk = some 1 ∧
    (stateAfter (step { vec regs0 [] with ime := true, ifReg := 1, ie := 1 })).map State.clk = some 5 := by decide

/-- A machine whose UNMAPPED_ACCESS is refuse. -/
def refusing (s : State) : State := { s with cfg := { Params.default with unmapped := .refuse } }

/-- R52, both values of UNMAPPED_ACCESS: vector L16-3, whose second byte goes to $E000, completes under oracle and is
refused under refuse. -/
theorem test_unmapped_access :
    (let s := vec { regs0 with sp := 0x1234 } [(0x0100, 0x08), (0x0101, 0xFF), (0x0102, 0xDF)]
     seen [0xDFFF] (step s) = some ({ regs0 with sp := 0x1234, pc := 0x0103 }, [0x34]) ∧
       refusalOf (step (refusing s)) = some .unmappedAccess) ∧
    refusalOf (step (refusing (vec { regs0 with sp := 0xFEA1 } [(0x0100, 0xC5)]))) = some .unmappedAccess ∧
    refusalOf (step { refusing (vec { regs0 with sp := 0xE001 } []) with ime := true, ifReg := 1, ie := 1 }) =
      some .unmappedAccess := by decide

/-- R350: a run ends at the first boundary where EndOfRun holds, here three NOPs before the stated address; HALT with
IE = $00 ends one; an undefined opcode and a refusal do not complete one. -/
theorem test_runs_end :
    (match run (endOfRun 0x0103) 9 (vec regs0 []) with | .ended t => t.regs.pc == 0x0103 && t.clk == 3 | _ => false) =
      true ∧
    (match run haltedForGood 9 (vec regs0 [(0x0101, 0x76)]) with | .ended t => t.regs.pc == 0x0102 | _ => false) =
      true ∧
    (match run (fun s => s.regs.pc == 0x0101) 9 (vec regs0 [(0x0100, 0xD3)]) with | .locked _ => true | _ => false) =
      true ∧
    (match run haltedForGood 9 { vec regs0 [(0x0100, 0x76)] with ifReg := 1, ie := 1 } with
      | .refused r _ => r == .haltPending | _ => false) = true := by decide

/-- R65: DAYH bit 6 stops the clock, and bit 7 stays set while the clock counts. -/
theorem test_mbc3_clock_stops :
    ({ Clock.zero with dayh := 0x40 } : Clock).advance .sec 0x01 = { Clock.zero with dayh := 0x40 } ∧
    ({ Clock.zero with dayh := 0x80 } : Clock).advance .dayh 0x01 = { Clock.zero with dayh := 0x81 } ∧
    Clock.zero.advance .sec 0x01 = { Clock.zero with sec := 0x01 } := by decide

/-- Trace I4: a request that the devices raise between steps wakes HALT with IME = 0, and the step runs the instruction
after it. -/
theorem test_halt_wakes_without_ime :
    cpuAfter (step { vec { regs0 with pc := 0x0101 } [(0x0101, 0x3C)] with
        ie := 0x01, mode := .halted, inbox := [[.request .vblank]] }) =
      some ({ regs0 with a := 0x01, pc := 0x0102 }, false, false, .running) := by decide

/-! ### The statements' hypotheses can be met -/

/-- A state whose stack is High RAM, running from ROM. -/
def sample (mem : Memory) : State := vec regs0 mem

/-- A state in the middle of work RAM: HL, SP and the pairs point there. -/
def ramSample : State :=
  vec { regs0 with b := 0xC0, d := 0xCF, e := 0xFF, h := 0xDF, l := 0xFF, c := 0x80, sp := 0xC002 } []

/-- DecodeOfEncode: the one form with a condition, at both ends of its range. -/
theorem witness_DecodeOfEncode : WellFormed (.rst 0x00) = true ∧ WellFormed (.rst 0x38) = true := by decide

/-- EncodeOfDecode: bytes of each length that decode. -/
theorem witness_EncodeOfDecode :
    decode [0x76] = .ok (.halt, []) ∧ decode [0xCB, 0xFF, 0x00] = .ok (.setR8 7 .a, [0x00]) ∧
    decode [0xC3, 0x50, 0x01] = .ok (.jpN16 0x0150, []) := ⟨rfl, rfl, rfl⟩

/-- UndefinedOpcodesLock: each of the three parts. -/
theorem witness_UndefinedOpcodesLock :
    Instr.undefD3 ∈ [Instr.undefD3, .undefDB, .undefDD, .undefE3, .undefE4, .undefEB, .undefEC, .undefED, .undefF4,
      .undefFC, .undefFD] ∧ ({ sample [] with mode := .locked } : State).mode = .locked := by decide

/-- DaaAfterDecimalAdd: A holds the packed decimal 99. -/
theorem witness_DaaAfterDecimalAdd :
    ({ sample [] with regs := { regs0 with a := 0x99 } } : State).regs.a =
      BitVec.ofNat 8 (16 * (9 : Fin 10).val + (9 : Fin 10).val) := by decide

/-- ResAndSetResults, BitTestResults and the other equations have no hypothesis; StoreFrame: the address of every
store is RAM the CPU can reach. -/
theorem witness_StoreFrame :
    place ramSample ramSample.hl = .ram 0xDFFF ∧ place ramSample 0xC000 = .ram 0xC000 ∧
    place ramSample (ramSample.addrR16Mem .bc) = .ram 0xC080 ∧
    place ramSample (ramSample.addrR16Mem .de) = .ram 0xCFFF ∧
    place ramSample (highPage ramSample.regs.c) = .ram 0xFF80 ∧ place ramSample (highPage 0xFE) = .ram 0xFFFE ∧
    dmaHides ramSample ramSample.hl = false ∧ dmaHides ramSample (highPage 0xFE) = false ∧
    (exec (.ldHLN8 0x5A) ramSample matches .next _) ∧ (exec (.setHL 7) ramSample matches .next _) := by decide

/-- WordStoreFrame: both addresses are RAM, for LD (n16),SP at the last two bytes of work RAM and for the stack; a
condition holds. -/
theorem witness_WordStoreFrame :
    place ramSample 0xDFFE = .ram 0xDFFE ∧ place ramSample (0xDFFE + 1) = .ram 0xDFFF ∧
    place ramSample (ramSample.regs.sp - 2) = .ram 0xC000 ∧ place ramSample (ramSample.regs.sp - 2 + 1) = .ram 0xC001 ∧
    dmaHides ramSample 0xDFFE = false ∧ dmaHides ramSample (ramSample.regs.sp - 2) = false ∧
    dmaHides ramSample (ramSample.regs.sp - 2 + 1) = false ∧ cond ramSample.regs.f .nz = true ∧
    (exec (.pushR16 .af) ramSample matches .next _) ∧ (exec (.callCC .nz 0x1234) ramSample matches .next _) ∧
    (exec (.ldN16SP 0xDFFE) ramSample matches .next _) ∧ (exec (.rst 0x28) ramSample matches .next _) := by decide

/-- PushThenPopCopiesPair, CallThenReturn and InterruptThenReti: a stack at the top of High RAM and one at the bottom
of work RAM. -/
theorem witness_StackInRam :
    place (sample []) (regs0.sp - 1) = .ram 0xFFFD ∧ place (sample []) (regs0.sp - 2) = .ram 0xFFFC ∧
    dmaHides (sample []) (regs0.sp - 1) = false ∧ dmaHides (sample []) (regs0.sp - 2) = false ∧
    place ramSample (ramSample.regs.sp - 1) = .ram 0xC001 ∧ place ramSample (ramSample.regs.sp - 2) = .ram 0xC000 ∧
    dmaHides ramSample (ramSample.regs.sp - 1) = false ∧ dmaHides ramSample (ramSample.regs.sp - 2) = false := by
  decide

/-- NopDiAndEiResults: both values of IME. -/
theorem witness_NopDiAndEiResults :
    (sample []).ime = false ∧ ({ sample [] with ime := true } : State).ime = true := by decide

/-- HaltCompletesOrIsRefused: IME set with a request pending, IME clear without one, and IME clear with one. -/
theorem witness_HaltCompletesOrIsRefused :
    ({ sample [] with ime := true, ifReg := 1, ie := 1 } : State).ime = true ∧
    (sample []).ifReg &&& (sample []).ie.setWidth 5 = 0 ∧
    (let s : State := { sample [] with ifReg := 1, ie := 1 }
     s.ime = false ∧ s.ifReg &&& s.ie.setWidth 5 ≠ 0) := by decide

/-- A Game Boy Color. -/
def colorSample : State := { sample [] with cfg := { Params.default with variant := .cgb } }

/-- StopCompletesOrIsRefused: the speed switch, STOP on CGB without it, on DMG, and with a request pending. -/
theorem witness_StopCompletesOrIsRefused :
    (let s : State := { colorSample with key1 := { speed := false, prepare := true } }
     s.cfg.variant = .cgb ∧ s.key1.prepare = true) ∧
    (colorSample.key1.prepare = false ∧ colorSample.ifReg &&& colorSample.ie.setWidth 5 = 0) ∧
    ((sample []).cfg.variant = .dmg ∧ (sample []).ifReg &&& (sample []).ie.setWidth 5 = 0) ∧
    (let s : State := { sample [] with ifReg := 0x10, ie := 0x10 }
     s.cfg.variant = .dmg ∧ s.ifReg &&& s.ie.setWidth 5 ≠ 0) := by decide

/-- StepRunsDecodedInstruction: a NOP, also the last byte before an unmapped address and with a device event before it, a
HALT that is refused, and a push that meets an unmapped address under UNMAPPED_ACCESS = refuse. -/
theorem witness_StepRunsDecodedInstruction :
    (let s := sample []
     let d := (deliverInbox s).2
     s.mode = .running ∧ d.ime = false ∧ peek d d.regs.pc = some 0x00 ∧ s.eiDelay = false ∧
       (stateAfter (exec .nop (d.setRegs { d.regs with pc := d.regs.pc + 1 }))).map State.outOfSpec = some false) ∧
    (let s : State := { sample [] with
      regs := { regs0 with pc := 0xDFFF }, eiDelay := true, inbox := [[.request .timer]] }
     let d := (deliverInbox s).2
     s.mode = .running ∧ d.ime = false ∧ peek d d.regs.pc = some 0x00 ∧ s.eiDelay = true ∧ d.ifReg = 0x04) ∧
    (let s : State := { sample [(0x0100, 0x76)] with ifReg := 1, ie := 1 }
     let d := (deliverInbox s).2
     s.mode = .running ∧ d.ime = false ∧ peek d d.regs.pc = some 0x76 ∧
       refusalOf (exec .halt (d.setRegs { d.regs with pc := d.regs.pc + 1 })) = some .haltPending) ∧
    (let s := refusing (sample [(0x0100, 0xC5)])
     let d := (deliverInbox { s with regs := { regs0 with sp := 0xE001 } }).2
     d.ime = false ∧ peek d d.regs.pc = some 0xC5 ∧
       (stateAfter (exec (.pushR16 .bc) (d.setRegs { d.regs with pc := d.regs.pc + 1 }))).map State.outOfSpec =
         some true) := by decide

/-- The same statement's decoding, and that none of the three needs a second byte. -/
theorem witness_StepRunsDecodedInstruction_decode :
    decode [0x00, 0x00, 0x00] = .ok (.nop, [0x00, 0x00]) ∧ decode [0x76, 0x00, 0x00] = .ok (.halt, [0x00, 0x00]) ∧
    decode [0xC5, 0x00, 0x00] = .ok (.pushR16 .bc, [0x00, 0x00]) ∧ Instr.nop.size = 1 ∧ Instr.halt.size = 1 ∧
    (Instr.pushR16 .bc).size = 1 := ⟨rfl, rfl, rfl, rfl, rfl, rfl⟩

/-- InterruptEntry: the first source while the machine runs, the last, raised by the devices before the step, while it
is halted; a push into High RAM and one that meets an unmapped address under UNMAPPED_ACCESS = refuse. -/
theorem witness_InterruptEntry :
    (let s : State := { sample [] with ime := true, ifReg := 0x1F, ie := 0x1F }
     let d := (deliverInbox s).2
     s.mode = .running ∧ d.ime = true ∧ (d.ifReg &&& d.ie.setWidth 5).getLsbD Irq.vblank.index = true ∧
       (∀ j, j < Irq.vblank.index → (d.ifReg &&& d.ie.setWidth 5).getLsbD j = false) ∧
       (memWrite (d.regs.sp - 2) 0x00 (memWrite (d.regs.sp - 1) 0x01 d)).outOfSpec = false) ∧
    (let s : State := { sample [] with ime := true, ie := 0x10, mode := .halted, inbox := [[.request .joypad]] }
     let d := (deliverInbox s).2
     s.mode = .halted ∧ d.ime = true ∧ (d.ifReg &&& d.ie.setWidth 5).getLsbD Irq.joypad.index = true ∧
       ∀ j, j < Irq.joypad.index → (d.ifReg &&& d.ie.setWidth 5).getLsbD j = false) ∧
    (memWrite 0xDFFF 0x00 (memWrite 0xE000 0x01 (refusing (sample [])))).outOfSpec = true := by decide

/-- HaltIdlesAndWakes: nothing pending after the events of the step; a request among them with IME = 0; and one with
IME = 1 that gives a next state. -/
theorem witness_HaltIdlesAndWakes :
    (let s : State := { sample [] with mode := .halted, inbox := [[.request .lcd]] }
     let d := (deliverInbox s).2
     s.mode = .halted ∧ d.ifReg = 0x02 ∧ d.ifReg &&& d.ie.setWidth 5 = 0) ∧
    (let s : State := { sample [] with mode := .halted, ie := 1, inbox := [[.request .vblank], []] }
     let d := (deliverInbox s).2
     d.ifReg &&& d.ie.setWidth 5 ≠ 0 ∧ s.ime = false ∧ d.inbox = [[]]) ∧
    (let s : State := { sample [] with mode := .halted, ie := 1, ime := true, inbox := [[.request .vblank]] }
     let d := (deliverInbox s).2
     d.ifReg &&& d.ie.setWidth 5 ≠ 0 ∧ s.ime = true ∧ (step s matches .next _)) := by decide

/-- StopEndsByJoypadOnly: a stopped machine with an empty inbox, with a request that is not the joypad event, and with
the joypad event among others. -/
theorem witness_StopEndsByJoypadOnly :
    (let s : State := { sample [] with mode := .stopped }
     s.mode = .stopped ∧ s.inbox = []) ∧
    (let s : State := { sample [] with mode := .stopped, inbox := [[.request .vblank], []] }
     s.mode = .stopped ∧ s.inbox = [.request .vblank] :: [[]] ∧ DevEvent.joypadLow ∉ [DevEvent.request .vblank]) ∧
    (let s : State := { sample [] with mode := .stopped, inbox := [[.request .joypad, .joypadLow]] }
     s.mode = .stopped ∧ s.inbox = [.request .joypad, .joypadLow] :: [] ∧
       DevEvent.joypadLow ∈ [DevEvent.request .joypad, .joypadLow] ∧
       (stateAfter (step s)).map State.mode = some .running) := by decide

/-- DeviceRequestSetsIfBit: bits 0 and 4. -/
theorem witness_DeviceRequestSetsIfBit : (0 : Nat) < 5 ∧ (4 : Nat) < 5 := by decide

/-- EiTakesEffectAfterNext: a NOP, a DI and an undefined opcode after EI. -/
theorem witness_EiTakesEffectAfterNext :
    (let s : State := { sample [] with eiDelay := true }
     s.mode = .running ∧ s.ime = false ∧ s.eiDelay = true ∧ (step s matches .next _) ∧
       (fetchInstr (wake (deliverInbox s).2)).1 = .nop) ∧
    (let s : State := { sample [(0x0100, 0xF3)] with eiDelay := true }
     s.mode = .running ∧ s.ime = false ∧ s.eiDelay = true ∧ (step s matches .next _) ∧
       (fetchInstr (wake (deliverInbox s).2)).1 = .di) ∧
    (let s : State := { sample [(0x0100, 0xFD)] with eiDelay := true }
     s.mode = .running ∧ s.ime = false ∧ s.eiDelay = true ∧ (step s matches .next _) ∧
       (fetchInstr (wake (deliverInbox s).2)).1 = .undefFD) := by decide

/-- StepKeepsMemoryCanonical, StepNeverChangesRom and StepKeepsConfiguration: a step that writes memory, and keys at
both ends of a ROM bank's range. -/
theorem witness_StepInvariants :
    (let s := sample [(0x0100, 0x08), (0x0102, 0xC0)]
     s.mem.wf = true ∧ (step s matches .next _)) ∧ (0 : Nat) % 65536 < 0x8000 ∧ (0x17FFF : Nat) % 65536 < 0x8000 := by
  decide

/-- OnlyUndefinedOpcodesLock: the opcode $D3 locks the machine. -/
theorem witness_OnlyUndefinedOpcodesLock :
    let s := sample [(0x0100, 0xD3)]
    s.mode ≠ .locked ∧ (stateAfter (step s)).map State.mode = some .locked := by decide

/-- OnlyRetiAndEiSetIme: RETI sets IME, and so does the instruction after EI. -/
theorem witness_OnlyRetiAndEiSetIme :
    (let s := sample [(0x0100, 0xD9)]
     s.ime = false ∧ (stateAfter (step s)).map State.ime = some true) ∧
    (let s : State := { sample [] with eiDelay := true }
     s.ime = false ∧ (stateAfter (step s)).map State.ime = some true) := by decide

/-- OnlyHaltAndStopAreRefused: its three cases; `test_unmapped_access` has more of the third. -/
theorem witness_OnlyHaltAndStopAreRefused :
    refusalOf (step { sample [(0x0100, 0x76)] with ifReg := 1, ie := 1 }) = some .haltPending ∧
    refusalOf (step { sample [(0x0100, 0x10)] with ifReg := 1, ie := 1 }) = some .stopPending ∧
    refusalOf (step (refusing (vec { regs0 with sp := 0xFEA1 } [(0x0100, 0xC5)]))) = some .unmappedAccess := by
  decide

/-- A machine with a controller of a given kind and 512 ROM banks. -/
def bankedSample (k : Controller) : State :=
  { sample [] with
    cfg := { Params.default with
      cartridge := { controller := k, romBanks := 512, ramBytes := 32768, timer := true, rumble := false } } }

/-- RamReadsBackWhatWasWritten: High RAM during an OAM DMA, and the ends of every other region outside one: work RAM, its
bank 7 on CGB, VRAM bank 1, OAM, and cartridge RAM bank 3 of an MBC3 and an MBC5. -/
theorem witness_RamReadsBackWhatWasWritten :
    place { sample [] with oamDma := true } 0xFF80 = .ram 0xFF80 ∧ place (sample []) 0xFFFE = .ram 0xFFFE ∧
    (sample []).oamDma = false ∧ place (sample []) 0xC000 = .ram 0xC000 ∧ place (sample []) 0xCFFF = .ram 0xCFFF ∧
    place (sample []) 0xD000 = .ram 0xD000 ∧ place { colorSample with svbk := 7 } 0xDFFF = .ram 0x6DFFF ∧
    place (sample []) 0x8000 = .ram 0x8000 ∧ place { colorSample with vbk := 1 } 0x9FFF = .ram 0x19FFF ∧
    place (sample []) 0xFE00 = .ram 0xFE00 ∧ place { sample [] with lcdMode := 1 } 0xFE9F = .ram 0xFE9F ∧
    (let s := bankedSample .mbc3
     let e : State := s.setCart { s.cart with ramg := 0x0A, ramb := 0x03 }
     place e 0xA000 = .ram 0x3A000 ∧ place e 0xBFFF = .ram 0x3BFFF ∧
       3 * 8192 + ((0xBFFF : Word).toNat - 0xA000) < e.cfg.cartridge.ramBytes) ∧
    (let s := bankedSample .mbc5
     let e : State := s.setCart { s.cart with ramg := 0x0A, ramb := 0x13 }
     place e 0xA000 = .ram 0x3A000 ∧ place e 0xBFFF = .ram 0x3BFFF) := by decide

/-- IfAndIeReadBack: no OAM DMA. -/
theorem witness_IfAndIeReadBack : (sample []).oamDma = false := by decide

/-- RomWritesAreCommands: a cartridge of each kind, and the first and last address of each range. -/
theorem witness_RomWritesAreCommands :
    (sample []).cfg.cartridge.controller = .none ∧ (bankedSample .mbc3).cfg.cartridge.controller = .mbc3 ∧
    (bankedSample .mbc5).cfg.cartridge.controller = .mbc5 ∧ (0x1FFF : Word).toNat < 0x2000 ∧
    (0x2000 : Word).toNat = 0x2000 ∧ (0x2FFF : Word).toNat < 0x3000 ∧ (0x3000 : Word).toNat = 0x3000 ∧
    (0x3FFF : Word).toNat < 0x4000 ∧ (0x4000 : Word).toNat = 0x4000 ∧ (0x5FFF : Word).toNat < 0x6000 ∧
    (0x6000 : Word).toNat = 0x6000 ∧ (0x7FFF : Word).toNat < 0x8000 := by decide

/-- Mbc5SelectsRomBank: the first and the last bank, at the first and the last address of each half. -/
theorem witness_Mbc5SelectsRomBank :
    (bankedSample .mbc5).cfg.cartridge.controller = .mbc5 ∧ 1 < (bankedSample .mbc5).cfg.cartridge.romBanks ∧
    511 < (bankedSample .mbc5).cfg.cartridge.romBanks ∧ (bankedSample .mbc5).oamDma = false ∧
    (0x3FFF : Word).toNat < 0x4000 ∧ ¬ (0x4000 : Word).toNat < 0x4000 ∧ (0x7FFF : Word).toNat < 0x8000 := by decide

/-- Mbc3LatchAndDayCarry: the first and last ROM bank and the ends of the ranges; a clock that is selected and enabled;
and clocks that are stopped, running, and with the day carry set. -/
theorem witness_Mbc3LatchAndDayCarry :
    (bankedSample .mbc3).cfg.cartridge.controller = .mbc3 ∧ (bankedSample .mbc3).oamDma = false ∧
    (0x7F : Byte).toNat ≤ 0x7F ∧ (0x7F : Byte).toNat < (bankedSample .mbc3).cfg.cartridge.romBanks ∧
    1 ≤ (0x01 : Byte).toNat ∧ (0x2000 : Word).toNat = 0x2000 ∧ (0x3FFF : Word).toNat < 0x4000 ∧
    (0x6000 : Word).toNat = 0x6000 ∧ (0x7FFF : Word).toNat < 0x8000 ∧
    (let s := bankedSample .mbc3
     let e : State := s.setCart { s.cart with ramg := 0x0A, ramb := 0x0C, latched := { Clock.zero with dayh := 0x81 } }
     e.cfg.cartridge.timer = true ∧ (memRead 0xA000 e).1 = 0x81 ∧ (memRead 0xBFFF e).1 = 0x81) ∧
    (let s := bankedSample .mbc3
     let e : State := s.setCart { s.cart with ramg := 0x0A, ramb := 0x0C, live := { Clock.zero with dayh := 0x81 } }
     e.cfg.cartridge.timer = true ∧ (memWrite 0xA000 0x00 e).cart.live.dayh = 0x00 ∧
       (memWrite 0xBFFF 0xC1 e).cart.live.dayh = 0xC1 ∧ (memWrite 0xA000 0x00 e).mem = e.mem) ∧
    ({ Clock.zero with dayh := 0x40 } : Clock).dayh.getLsbD 6 = true ∧ Clock.zero.dayh.getLsbD 6 = false ∧
    ({ Clock.zero with dayh := 0x80 } : Clock).dayh.getLsbD 7 = true := by decide

/-- UnmappedAccessesNeverFault: the four ends of its two ranges, both values of the parameter, and the cartridge RAM
window without a controller and with RAMG other than $0A. -/
theorem witness_UnmappedAccessesNeverFault :
    (0xE000 : Word).toNat = 0xE000 ∧ (0xFDFF : Word).toNat < 0xFE00 ∧ (0xFEA0 : Word).toNat = 0xFEA0 ∧
    (0xFEFF : Word).toNat < 0xFF00 ∧ (sample []).cfg.unmapped = .oracle ∧
    (refusing (sample [])).cfg.unmapped = .refuse ∧ (0xA000 : Word).toNat = 0xA000 ∧
    (0xBFFF : Word).toNat < 0xC000 ∧ (sample []).cfg.cartridge.controller = .none ∧
    (bankedSample .mbc5).cart.ramg ≠ 0x0A := by decide

/-- DeviceWritesAreRecorded: the two ends of its range, and the two bank registers on a machine that has them. -/
theorem witness_DeviceWritesAreRecorded :
    (0xFF00 : Word).toNat = 0xFF00 ∧ (0xFF7F : Word).toNat < 0xFF80 ∧ (0xFF7F : Word) ≠ 0xFF0F ∧
    (0xFF4F : Word) ≠ 0xFF0F ∧ (0xFF70 : Word) ≠ 0xFF0F ∧ colorSample.cfg.variant = .cgb ∧
    (memWrite 0xFF4F 0xFF colorSample).vbk = 1 ∧ (memWrite 0xFF70 0xFE colorSample).svbk = 6 := by decide

/-- Key1AndSpeedSwitch: a Game Boy Color, and bytes with bit 0 set and clear. -/
theorem witness_Key1AndSpeedSwitch :
    colorSample.cfg.variant = .cgb ∧ (0x01 : Byte).getLsbD 0 = true ∧ colorSample.oamDma = false ∧
    (memWrite 0xFF4D 0x81 colorSample).key1 = { speed := false, prepare := true } ∧
    (memWrite 0xFF4D 0xFE colorSample).key1 = { speed := false, prepare := false } := by decide

/-- OamDmaCopiesPage: the ends of its two ranges of pages, of the bytes copied and of the keys left alone; a transfer in
progress, with and without its end among the events. -/
theorem witness_OamDmaCopiesPage :
    (0x7F : Byte).toNat < 0x80 ∧ (0xC0 : Byte).toNat = 0xC0 ∧ (0xDF : Byte).toNat < 0xE0 ∧
    (sample []).oamDma = false ∧ (159 : Nat) < 160 ∧ (0xFDFF : Nat) < 0xFE00 ∧ 0xFEA0 ≤ (0xFEA0 : Nat) ∧
    (let s : State := { sample [] with oamDma := true }
     s.oamDma = true ∧ (deliverAll [.oamDmaEnd] s).oamDma = false ∧ (deliverAll [.joypadLow] s).oamDma = true) ∧
    (0xDFFF : Word).toNat < 0xE000 ∧ (0xFE9F : Word).toNat < 0xFEA0 ∧ (0xFF7F : Word).toNat < 0xFF80 := by decide

/-- LockedVideoRamIsFree: VRAM in mode 11 and during a transfer, OAM in modes 10 and 11, the ends of both, and the other
VRAM bank's byte at the same address. -/
theorem witness_LockedVideoRamIsFree :
    ({ sample [] with lcdMode := 3 } : State).lcdMode = 3 ∧ (0x8000 : Word).toNat = 0x8000 ∧
    (0x9FFF : Word).toNat < 0xA000 ∧
    (let s : State := { colorSample with vbk := 1, vramDma := true }
     s.vramDma = true ∧ place s 0x9FFF = .held 0x19FFF ∧
       (0x9FFF : Nat) ≠ (if s.cfg.variant = .cgb then s.vbk.toNat else 0) * 65536 + (0x9FFF : Word).toNat) ∧
    place { sample [] with lcdMode := 2 } 0xFE00 = .held 0xFE00 ∧
    place { sample [] with lcdMode := 3 } 0xFE9F = .held 0xFE9F ∧ (0xFE9F : Word).toNat < 0xFEA0 := by decide

end Sys2Proof.Tests
end

section
/-!
PROOFS. The configuration and the record of device writes (00_scope.md R9, 20_memory.md R71). The invariant compares the
running machine with the state the step began in: the configuration is the same, and the record it had then is a suffix of
the record now. Every building block of a step keeps it; only a write to a device register makes the record longer.
-/

namespace Sys2Proof.Machine

/-! ### What the whole step keeps -/

/-- A property of states that the building blocks of every meaning keep, and those of the rest of Step (R366): device
events, the taking of an inbox entry, the clearing of a request at interrupt entry, the passing of cycles, and the
clearing of the out-of-spec marker. -/
structure StepKeeps (P : State → Prop) : Prop extends Keeps P where
  event : ∀ e s, P s → P (deliver e s)
  inbox : ∀ q s, P s → P (s.setInbox q)
  setIf : ∀ v s, P s → P (s.setIf v)
  tick : ∀ n s, P s → P (s.tick n)
  clearMarker : ∀ s, P s → P (s.setOutOfSpec false)

section
variable {P : State → Prop}

theorem StepKeeps.deliverInbox (hP : StepKeeps P) (s : State) (hs : P s) : P (deliverInbox s).2 :=
  deliverInbox_keeps hP.event hP.inbox s hs

theorem StepKeeps.awake (hP : StepKeeps P) (s : State) (hs : P s) : P (awake s) :=
  hP.clearMarker _ (hP.mode _ _ (hP.deliverInbox s hs))

theorem StepKeeps.enterInterrupt (hP : StepKeeps P) (k : Irq) (s : State) (hs : P s) : P (enterInterrupt k s) := by
  unfold Machine.enterInterrupt
  rw [takeInterrupt_spec]
  exact hP.tick _ _ (hP.regs _ _ (hP.write _ _ _ (hP.write _ _ _ (hP.setIf _ _ (hP.ime _ _ _ hs)))))

theorem StepKeeps.finishInstr (hP : StepKeeps P) (ei : Bool) (i : Instr) (n : Nat) (s : State) (hs : P s) :
    P (finishInstr ei i n s) := by
  have ht : P (s.tick n) := hP.tick _ _ hs
  unfold Machine.finishInstr
  dsimp only
  split
  · exact hP.ime _ _ _ ht
  · exact ht

/-- What every building block keeps, a step keeps, whichever of its five ways it goes. -/
theorem StepKeeps.step (hP : StepKeeps P) (s t : State) (h : step s = .next t) (hs : P s) : P t := by
  obtain ⟨_, rfl⟩ | ⟨_, _, rfl⟩ | ⟨_, _, rfl⟩ | ⟨k, _, _, _, rfl, _⟩ | ⟨u, _, _, hu, rfl, _⟩ := step_next_cases s t h
  · exact hs
  · exact hP.deliverInbox s hs
  · exact hP.deliverInbox s hs
  · exact hP.enterInterrupt k _ (hP.awake s hs)
  · have hf : P (fetchInstr (Machine.awake s)).2 := hP.toKeeps.fetchInstr _ (hP.awake s hs)
    exact hP.finishInstr _ _ _ _ (exec_keeps hP.toKeeps _ _ _ hu hf)

end

/-! ### The record of device writes -/

theorem memRead_devLog (a : Word) (s : State) : (memRead a s).2.devLog = s.devLog := by
  obtain ⟨q, o, h⟩ := memRead_state a s; rw [h]

@[simp] theorem touchUnmapped_devLog (s : State) : (touchUnmapped s).devLog = s.devLog := by
  obtain ⟨o, h⟩ := touchUnmapped_state s; rw [h]; rfl

@[simp] theorem cartCommand_devLog (s : State) (a : Word) (v : Byte) : (cartCommand s a v).devLog = s.devLog := by
  obtain ⟨c, h⟩ := cartCommand_state s a v; rw [h]; rfl

@[simp] theorem deviceWrite_devLog (a : Word) (v : Byte) (s : State) :
    (deviceWrite a v s).devLog = (a.toNat, v) :: s.devLog := by
  obtain ⟨m, q, o, d, k, vb, sv, vd, h⟩ := deviceWrite_state a v s; rw [h]

/-- A write to a device register is recorded at the head, and no other write is recorded (R71). -/
theorem memWrite_devLog (a : Word) (v : Byte) (s : State) :
    (memWrite a v s).devLog = if place s a = .device then (a.toNat, v) :: s.devLog else s.devLog := by
  unfold memWrite
  split <;> rename_i hp <;> simp only [hp, reduceCtorEq, if_true, if_false]
  · exact cartCommand_devLog s a v
  · split <;> rfl
  · rfl
  · rfl
  · rfl
  · rfl
  · exact deviceWrite_devLog a v s
  · exact touchUnmapped_devLog s

/-! ### The invariant -/

/-- The machine has the configuration of `s₀`, and its record of device writes is that of `s₀` with any new writes at
the head. -/
def continues (s₀ s : State) : Prop := s.cfg = s₀.cfg ∧ s₀.devLog <:+ s.devLog

theorem continues_refl (s : State) : continues s s := ⟨rfl, List.suffix_rfl⟩

theorem memRead_continues {s₀ : State} (a : Word) (s : State) (h : continues s₀ s) : continues s₀ (memRead a s).2 := by
  unfold continues
  rw [memRead_cfg, memRead_devLog]
  exact h

theorem memWrite_continues {s₀ : State} (a : Word) (v : Byte) (s : State) (h : continues s₀ s) :
    continues s₀ (memWrite a v s) := by
  obtain ⟨hc, hl⟩ := h
  unfold continues
  rw [memWrite_cfg, memWrite_devLog]
  refine ⟨hc, ?_⟩
  split
  · exact hl.trans (List.suffix_cons _ _)
  · exact hl

/-- Device events are what the devices do, not what is written to them: none is recorded. -/
theorem deliver_continues {s₀ : State} (e : DevEvent) (s : State) (h : continues s₀ s) :
    continues s₀ (deliver e s) := by
  obtain ⟨i, l, m, o, v, c, hd⟩ := deliver_state e s
  rw [hd]; exact h

theorem stepKeeps_continues (s₀ : State) : StepKeeps (continues s₀) where
  read := memRead_continues
  write := memWrite_continues
  regs _ _ h := h
  ime _ _ _ h := h
  mode _ _ h := h
  key1 _ _ h := h
  event := deliver_continues
  inbox _ _ h := h
  setIf _ _ h := h
  tick _ _ h := h
  clearMarker _ h := h

/-- Settles O45: a state continues itself, and a step keeps that. -/
theorem stepKeepsConfiguration : Obligations.StepKeepsConfiguration := by
  unfold Obligations.StepKeepsConfiguration
  intro s t h
  obtain ⟨hcfg, new, hnew⟩ := (stepKeeps_continues s).step s t h (continues_refl s)
  exact ⟨hcfg, new, hnew.symm⟩

end Sys2Proof.Machine
end

section
/-!
PROOFS. Who changes IME, ei_delay and the mode (10_state.md R31, R32, R33, R38). The three are gathered in one value, the
state's control. An instruction keeps it but for DI, EI, RETI, HALT, STOP and the undefined opcodes; of the rest of a
step only waking, the interrupt entry and the end of an EI's delay write it.
-/

namespace Sys2Proof.Machine

/-! ### The control of a state -/

/-- IME, ei_delay and the mode: what decides how the next step goes (R31, R32, R33). -/
structure Control where
  ime : Bool
  eiDelay : Bool
  mode : Mode

/-- The control of a state. -/
def State.control (s : State) : Control := ⟨s.ime, s.eiDelay, s.mode⟩

@[simp] theorem control_ime (s : State) : s.control.ime = s.ime := rfl

@[simp] theorem control_eiDelay (s : State) : s.control.eiDelay = s.eiDelay := rfl

@[simp] theorem control_mode (s : State) : s.control.mode = s.mode := rfl

theorem control_eq_iff (s : State) (c : Control) :
    s.control = c ↔ s.ime = c.ime ∧ s.eiDelay = c.eiDelay ∧ s.mode = c.mode := by
  cases c; simp [State.control]

@[simp] theorem setRegs_control (s : State) (g : Regs) : (s.setRegs g).control = s.control := rfl

@[simp] theorem setKey1_control (s : State) (k : Key1) : (s.setKey1 k).control = s.control := rfl

@[simp] theorem memRead_control (a : Word) (s : State) : (memRead a s).2.control = s.control := by
  obtain ⟨q, o, h⟩ := memRead_state a s; rw [h]; rfl

@[simp] theorem memWrite_control (a : Word) (v : Byte) (s : State) : (memWrite a v s).control = s.control := by
  simp [control_eq_iff]

/-! ### The shared operations -/

@[simp] theorem memWrite16_control (a v : Word) (s : State) : (memWrite16 a v s).control = s.control := by
  simp [memWrite16]

@[simp] theorem push16_control (v : Word) (s : State) : (push16 v s).control = s.control := by simp [push16_spec]

@[simp] theorem pop16_control (s : State) : (pop16 s).2.control = s.control := by simp [pop16_spec]

@[simp] theorem callTo_control (a : Word) (s : State) : (callTo a s).control = s.control := by simp [callTo]

@[simp] theorem returnTo_control (s : State) : (returnTo s).control = s.control := by simp [returnTo]

@[simp] theorem jumpRelative_control (e : Byte) (s : State) : (jumpRelative e s).control = s.control := rfl

@[simp] theorem loadA_control (a : Word) (s : State) : (loadA a s).control = s.control := by simp [loadA]

@[simp] theorem setAFlags_control (d : Byte × Flags) (s : State) : (setAFlags d s).control = s.control := rfl

@[simp] theorem modifyR8_control (r : R8) (op : Byte → Flags → Byte × Flags) (s : State) :
    (modifyR8 r op s).control = s.control := rfl

@[simp] theorem modifyHL_control (op : Byte → Flags → Byte × Flags) (s : State) :
    (modifyHL op s).control = s.control := by
  simp [modifyHL]

/-- An operation on A that keeps the control keeps it with the byte at HL as its operand. -/
theorem withHL_control (op : Byte → State → State) (s : State) (h : ∀ v t, (op v t).control = t.control) :
    (withHL op s).control = s.control := by
  simp [withHL, h]

/-- What an instruction does on a condition keeps the control if it does when the condition holds. -/
theorem ite_control (c : Bool) (s t : State) (h : t.control = s.control) :
    (if c then t else s).control = s.control := by
  cases c
  · rfl
  · exact h

/-! ### Instructions -/

/-- The eleven undefined opcodes (R112). -/
def undefinedOpcodes : List Instr :=
  [.undefD3, .undefDB, .undefDD, .undefE3, .undefE4, .undefEB, .undefEC, .undefED, .undefF4, .undefFC, .undefFD]

/-- Everything an instruction can do to the control: keep it, or be one of the instructions whose effect it is. -/
theorem exec_control_cases (i : Instr) (s t : State) (h : exec i s = .next t) :
    t.control = s.control ∨
    (i = .di ∧ t = s.setIme false false) ∨
    (i = .ei ∧ s.ime = false ∧ t = s.setIme false true) ∨
    (i = .reti ∧ t = (returnTo s).setIme true false) ∨
    (i = .halt ∧ t = s.setMode .halted) ∨
    (∃ n, i = .stop n ∧ t = s.setMode .stopped) ∨
    (i ∈ undefinedOpcodes ∧ t = s.setMode .locked) := by
  cases i
  case di => exact .inr (.inl ⟨rfl, (Host.Outcome.next.inj h).symm⟩)
  case ei =>
    obtain rfl := Host.Outcome.next.inj h
    cases hi : s.ime
    · exact .inr (.inr (.inl ⟨rfl, rfl, by simp⟩))
    · exact .inl (by simp)
  case reti => exact .inr (.inr (.inr (.inl ⟨rfl, (Host.Outcome.next.inj h).symm⟩)))
  case halt =>
    simp only [exec, execHalt] at h
    split at h
    · cases h
    · exact .inr (.inr (.inr (.inr (.inl ⟨rfl, (Host.Outcome.next.inj h).symm⟩))))
  case stop n =>
    simp only [exec, execStop] at h
    split at h
    · obtain rfl := Host.Outcome.next.inj h
      exact .inl rfl
    · split at h
      · cases h
      · exact .inr (.inr (.inr (.inr (.inr (.inl ⟨n, rfl, (Host.Outcome.next.inj h).symm⟩)))))
  case undefD3 | undefDB | undefDD | undefE3 | undefE4 | undefEB | undefEC | undefED | undefF4 | undefFC | undefFD =>
    exact .inr (.inr (.inr (.inr (.inr (.inr
      ⟨by simp [undefinedOpcodes], (Host.Outcome.next.inj h).symm⟩)))))
  case adcAHL | addAHL | andHL | cpHL | orHL | sbcAHL | subHL | xorHL =>
    obtain rfl := Host.Outcome.next.inj h
    exact .inl (withHL_control _ _ fun _ _ => rfl)
  case callCC | jpCC | jrCC | retCC =>
    obtain rfl := Host.Outcome.next.inj h
    exact .inl (ite_control _ _ _ (by simp))
  all_goals
    obtain rfl := Host.Outcome.next.inj h
    left
    simp [adcA, addA, andA, cpA, orA, sbcA, subA, xorA, rotateA]

/-- An undefined opcode locks the machine up and does nothing else (R112, R360). -/
theorem exec_of_undefined (i : Instr) (s : State) (hi : i ∈ undefinedOpcodes) : exec i s = .next (lockUp s) := by
  simp only [undefinedOpcodes, List.mem_cons, List.not_mem_nil, or_false] at hi
  obtain rfl | rfl | rfl | rfl | rfl | rfl | rfl | rfl | rfl | rfl | rfl := hi <;> rfl

/-- An instruction that enters Locked is an undefined opcode (R33, R112). -/
theorem exec_enters_locked (i : Instr) (s t : State) (h : exec i s = .next t) (hs : s.mode ≠ .locked)
    (ht : t.mode = .locked) : i ∈ undefinedOpcodes := by
  obtain hc | ⟨_, rfl⟩ | ⟨_, _, rfl⟩ | ⟨_, rfl⟩ | ⟨_, rfl⟩ | ⟨_, _, rfl⟩ | ⟨hi, _⟩ := exec_control_cases i s t h
  · obtain ⟨_, _, hmode⟩ := (control_eq_iff _ _).1 hc
    exact absurd (hmode.symm.trans ht) hs
  · exact absurd ht hs
  · exact absurd ht hs
  · obtain ⟨_, _, hmode⟩ := (control_eq_iff _ _).1 (returnTo_control s)
    exact absurd (hmode.symm.trans ht) hs
  · cases ht
  · cases ht
  · exact hi

/-- An instruction that sets IME is RETI (R31). -/
theorem exec_sets_ime (i : Instr) (s t : State) (h : exec i s = .next t) (hs : s.ime = false) (ht : t.ime = true) :
    i = .reti := by
  obtain hc | ⟨_, rfl⟩ | ⟨_, _, rfl⟩ | ⟨hi, _⟩ | ⟨_, rfl⟩ | ⟨_, _, rfl⟩ | ⟨_, rfl⟩ := exec_control_cases i s t h
  · obtain ⟨hime, _, _⟩ := (control_eq_iff _ _).1 hc
    simp [hime, hs] at ht
  · cases ht
  · cases ht
  · exact hi
  · simp [hs] at ht
  · simp [hs] at ht
  · simp [hs] at ht

/-- The instructions after which an EI takes effect are all but DI and the undefined opcodes (R32, R366; log 20). -/
theorem enablesAfter_iff (i : Instr) : enablesAfter i = true ↔ i ∉ .di :: undefinedOpcodes := by
  cases i <;> simp [enablesAfter, undefinedOpcodes]

/-! ### A step (R366) -/

theorem deliverInbox_control (s : State) : (deliverInbox s).2.control = s.control := by
  obtain ⟨q, i, l, m, o, v, c, h⟩ := deliverInbox_state s; rw [h]; rfl

theorem fetchInstr_control (s : State) : (fetchInstr s).2.control = s.control := by
  obtain ⟨p, q, o, h⟩ := fetchInstr_state s; rw [h]; rfl

theorem awake_control (s : State) : (awake s).control = ⟨s.ime, s.eiDelay, .running⟩ := by
  obtain ⟨q, i, l, m, o, v, c, h⟩ := awake_state s; rw [h]; rfl

theorem enterInterrupt_control (k : Irq) (s : State) : (enterInterrupt k s).control = ⟨false, false, s.mode⟩ := by
  simp [enterInterrupt, takeInterrupt_spec, State.control]

/-- The end of an EI's delay: IME set and ei_delay cleared (R32). -/
theorem finishInstr_control_of_enables (i : Instr) (n : Nat) (u : State) (hi : enablesAfter i = true) :
    (finishInstr true i n u).control = ⟨true, false, u.mode⟩ := by
  simp [finishInstr, hi, State.control]

theorem finishInstr_control_of_not (ei : Bool) (i : Instr) (n : Nat) (u : State)
    (h : (ei && enablesAfter i) = false) : (finishInstr ei i n u).control = u.control := by
  simp [finishInstr, h, State.control]

theorem finishInstr_mode (ei : Bool) (i : Instr) (n : Nat) (u : State) : (finishInstr ei i n u).mode = u.mode := by
  unfold finishInstr
  dsimp only
  split <;> rfl

/-- EI's delay, for the one instruction it lasts: every instruction ends it with IME set, but DI, which ends it with IME
clear, and the undefined opcodes, which leave it (R32; log 20). -/
theorem instr_after_ei (i : Instr) (d u : State) (n : Nat) (hd : d.control = ⟨false, true, .running⟩)
    (hu : exec i d = .next u) :
    let t := finishInstr true i n u
    (i = .di → t.ime = false ∧ t.eiDelay = false) ∧
    (i ∉ .di :: undefinedOpcodes → t.ime = true ∧ t.eiDelay = false) ∧
    (i ∈ undefinedOpcodes → t.ime = false ∧ t.eiDelay = true) := by
  refine ⟨fun hi => ?di, fun hi => ?other, fun hi => ?undefined⟩
  case di =>
    subst hi
    obtain rfl := Host.Outcome.next.inj hu
    exact ⟨rfl, rfl⟩
  case other =>
    obtain ⟨hime, hei, _⟩ := (control_eq_iff _ _).1
      (finishInstr_control_of_enables i n u ((enablesAfter_iff i).2 hi))
    exact ⟨hime, hei⟩
  case undefined =>
    have hno : enablesAfter i = false := by
      simpa using fun hen => (enablesAfter_iff i).1 hen (List.mem_cons_of_mem _ hi)
    rw [exec_of_undefined i d hi] at hu
    obtain rfl := Host.Outcome.next.inj hu
    obtain ⟨hime, hei, _⟩ := (control_eq_iff _ _).1 hd
    obtain ⟨hime', hei', _⟩ := (control_eq_iff _ _).1 (finishInstr_control_of_not true i n (lockUp d) hno)
    exact ⟨hime'.trans hime, hei'.trans hei⟩

/-- What a step does to the control: it idles in a mode other than Running and keeps it; it takes an interrupt, which
IME = 1 allows; or, from a running or wakened state with the same IME and ei_delay, it runs an instruction. -/
theorem step_control_cases (s t : State) (h : step s = .next t) :
    (s.mode ≠ .running ∧ t.control = s.control) ∨
    (s.ime = true ∧ t.control = ⟨false, false, .running⟩) ∨
    (∃ d u n, d.control = ⟨s.ime, s.eiDelay, .running⟩ ∧ exec (fetchInstr (awake s)).1 d = .next u ∧
      t = finishInstr s.eiDelay (fetchInstr (awake s)).1 n u) := by
  obtain ⟨hm, rfl⟩ | ⟨hm, _, rfl⟩ | ⟨hm, _, rfl⟩ | ⟨k, _, hi, _, rfl, _⟩ | ⟨u, _, _, hu, ht, _⟩ :=
    step_next_cases s t h
  · exact .inl ⟨by simp [hm], rfl⟩
  · exact .inl ⟨by simp [hm], deliverInbox_control s⟩
  · exact .inl ⟨by simp [hm], deliverInbox_control s⟩
  · refine .inr (.inl ⟨hi, ?_⟩)
    rw [enterInterrupt_control, show (awake s).mode = .running from rfl]
  · exact .inr (.inr ⟨_, u, _, (fetchInstr_control _).trans (awake_control s), hu, ht⟩)

/-! ### The obligations -/

/-- Settles O46: idling keeps the mode and an interrupt entry leaves the machine running, so the step that enters Locked
ran an instruction, from Running. -/
theorem onlyUndefinedOpcodesLock : Obligations.OnlyUndefinedOpcodesLock := by
  unfold Obligations.OnlyUndefinedOpcodesLock
  intro s t hs h ht
  obtain ⟨_, hc⟩ | ⟨_, hc⟩ | ⟨d, u, n, hd, hu, rfl⟩ := step_control_cases s t h
  · obtain ⟨_, _, hmode⟩ := (control_eq_iff _ _).1 hc
    exact absurd (hmode.symm.trans ht) hs
  · obtain ⟨_, _, hmode⟩ := (control_eq_iff _ _).1 hc
    cases hmode.symm.trans ht
  · obtain ⟨_, _, hrun⟩ := (control_eq_iff _ _).1 hd
    rw [finishInstr_mode] at ht
    exact exec_enters_locked _ d u hu (by simp [hrun]) ht

/-- Settles O47: with ei_delay clear the end of a step sets nothing, and of the instructions only RETI sets IME. -/
theorem onlyRetiAndEiSetIme : Obligations.OnlyRetiAndEiSetIme := by
  unfold Obligations.OnlyRetiAndEiSetIme
  intro s t hs h ht
  obtain ⟨_, hc⟩ | ⟨hi, _⟩ | ⟨d, u, n, hd, hu, rfl⟩ := step_control_cases s t h
  · obtain ⟨hime, _, _⟩ := (control_eq_iff _ _).1 hc
    simp [hime, hs] at ht
  · simp [hs] at hi
  · cases he : s.eiDelay with
    | true => exact .inl rfl
    | false =>
      obtain ⟨hime, _, _⟩ := (control_eq_iff _ _).1 hd
      obtain ⟨hfin, _, _⟩ := (control_eq_iff _ _).1
        (finishInstr_control_of_not s.eiDelay (fetchInstr (awake s)).1 n u (by simp [he]))
      exact .inr (exec_sets_ime _ d u hu (hime.trans hs) (hfin.symm.trans ht))

/-- Settles O41: a running machine with IME = 0 idles in no mode and takes no interrupt, so it runs an instruction, whose
end is that after an EI. -/
theorem eiTakesEffectAfterNext : Obligations.EiTakesEffectAfterNext := by
  unfold Obligations.EiTakesEffectAfterNext
  intro s t hm hs he h
  obtain ⟨hn, _⟩ | ⟨hi, _⟩ | ⟨d, u, n, hd, hu, rfl⟩ := step_control_cases s t h
  · exact absurd hm hn
  · simp [hs] at hi
  · rw [hs, he] at hd
    rw [he]
    exact instr_after_ei _ d u n hd hu

/-- Settles O60: each part is a field of `State.start`. -/
theorem startState : Obligations.StartState := by
  unfold Obligations.StartState
  intro r cfg
  exact ⟨rfl, rfl, rfl, rfl, rfl, rfl, rfl, rfl, rfl⟩

end Sys2Proof.Machine
end

section
/-!
PROOFS. What the addresses of each range select (20_memory.md R51, R52, R62, R65, R67), and what a read and a write do
there. One lemma per range, one per kind of place.
-/

namespace Sys2Proof.Machine

/-! ### The ranges of the memory map (R51, R52) -/

theorem place_vram (s : State) (a : Word) (h : 0x8000 ≤ a.toNat) (h' : a.toNat < 0xA000) :
    place s a = ramOrHeld (vramHeld s) (bankKey (vramBank s) a.toNat) := by
  simp (disch := omega) only [place, if_pos, if_neg]

theorem place_cart (s : State) (a : Word) (h : 0xA000 ≤ a.toNat) (h' : a.toNat < 0xC000) :
    place s a = cartPlace s a := by
  simp (disch := omega) only [place, if_pos, if_neg]

theorem place_wram (s : State) (a : Word) (h : 0xC000 ≤ a.toNat) (h' : a.toNat < 0xD000) :
    place s a = .ram a.toNat := by
  simp (disch := omega) only [place, if_pos, if_neg]

theorem place_wramBanked (s : State) (a : Word) (h : 0xD000 ≤ a.toNat) (h' : a.toNat < 0xE000) :
    place s a = .ram (bankKey (wramBank s - 1) a.toNat) := by
  simp (disch := omega) only [place, if_pos, if_neg]

theorem place_oam (s : State) (a : Word) (h : 0xFE00 ≤ a.toNat) (h' : a.toNat < 0xFEA0) :
    place s a = ramOrHeld (oamHeld s) a.toNat := by
  simp (disch := omega) only [place, if_pos, if_neg]

theorem place_highRam (s : State) (a : Word) (h : 0xFF80 ≤ a.toNat) (h' : a.toNat < 0xFFFF) :
    place s a = .ram a.toNat := by
  simp (disch := omega) only [place, if_pos, if_neg]

theorem place_device (s : State) (a : Word) (h : 0xFF00 ≤ a.toNat) (h' : a.toNat < 0xFF80) (hif : a.toNat ≠ 0xFF0F) :
    place s a = .device := by
  simp (disch := omega) only [place, if_pos, if_neg]

/-- The addresses in no row of the memory map (R52). -/
theorem isUnmapped_iff (a : Word) :
    isUnmapped a = true ↔ (0xE000 ≤ a.toNat ∧ a.toNat < 0xFE00) ∨ (0xFEA0 ≤ a.toNat ∧ a.toNat < 0xFF00) := by
  simp only [isUnmapped, Bool.or_eq_true, decide_eq_true_eq]

theorem place_of_isUnmapped (s : State) (a : Word) (h : isUnmapped a = true) : place s a = .unmapped := by
  obtain ⟨h, h'⟩ | ⟨h, h'⟩ := (isUnmapped_iff a).1 h <;>
    simp (disch := omega) only [place, if_pos, if_neg]

theorem ramOrHeld_not_unmapped (held : Bool) (k : Nat) : ramOrHeld held k ≠ .unmapped := by
  unfold ramOrHeld; split <;> simp

theorem cartPlace_not_unmapped (s : State) (a : Word) : cartPlace s a ≠ .unmapped := by
  unfold cartPlace; split <;> simp

theorem isUnmapped_of_place (s : State) (a : Word) (h : place s a = .unmapped) : isUnmapped a = true := by
  rw [isUnmapped_iff]
  unfold place at h
  dsimp only at h
  split at h
  · cases h
  split at h
  · exact absurd h (ramOrHeld_not_unmapped _ _)
  split at h
  · exact absurd h (cartPlace_not_unmapped s a)
  split at h
  · cases h
  split at h
  · cases h
  split at h
  · omega
  split at h
  · exact absurd h (ramOrHeld_not_unmapped _ _)
  split at h
  · omega
  repeat' split at h
  all_goals cases h

/-! ### Where memory stands -/

/-- RAM is selected at $8000 or above only (R51). -/
theorem le_of_place_ram (s : State) (a : Word) (k : Nat) (h : place s a = .ram k) : 0x8000 ≤ a.toNat := by
  by_contra hlt
  rw [place_rom_of_lt s a (by omega)] at h
  cases h

theorem ramOrHeld_held (held : Bool) (k q : Nat) (h : ramOrHeld held k = .held q) : q = k := by
  unfold ramOrHeld at h
  split at h
  · simpa using h.symm
  · cases h

theorem cartPlace_not_held (s : State) (a : Word) (k : Nat) : cartPlace s a ≠ .held k := by
  unfold cartPlace; split <;> simp

/-- Memory that something holds stands, as RAM does, at a key that gives the address back, and not in the ROM area. -/
theorem place_held_key (s : State) (a : Word) (k : Nat) (h : place s a = .held k) :
    k % 65536 = a.toNat ∧ 0x8000 ≤ a.toNat := by
  have ha : a.toNat < 65536 := a.isLt
  unfold place at h
  dsimp only at h
  split at h
  · cases h
  split at h
  · rw [ramOrHeld_held _ _ _ h]; unfold bankKey; omega
  split at h
  · exact absurd h (cartPlace_not_held s a k)
  split at h
  · cases h
  split at h
  · cases h
  split at h
  · cases h
  split at h
  · rw [ramOrHeld_held _ _ _ h]; omega
  repeat' split at h
  all_goals cases h

/-! ### Who can reach an address (R396) -/

theorem dmaHides_of_no_dma (s : State) (a : Word) (h : s.oamDma = false) : dmaHides s a = false := by
  simp [dmaHides, h]

theorem dmaHides_highRam (s : State) (a : Word) (h : 0xFF80 ≤ a.toNat) (h' : a.toNat < 0xFFFF) :
    dmaHides s a = false := by
  simp [dmaHides, isHighRam, h, h']

theorem dmaHides_of_isUnmapped (s : State) (a : Word) (h : isUnmapped a = true) : dmaHides s a = false := by
  simp [dmaHides, h]

/-! ### Reading and writing, by kind of place (R70, R71) -/

theorem memRead_of_rom (a : Word) (s : State) (k : Nat) (hp : place s a = .rom k) (hd : dmaHides s a = false) :
    memRead a s = (s.mem.read k, s) := by
  simp [memRead, hd, hp]

theorem memRead_of_ram (a : Word) (s : State) (k : Nat) (hp : place s a = .ram k) (hd : dmaHides s a = false) :
    memRead a s = (s.mem.read k, s) := by
  simp [memRead, hd, hp]

theorem memRead_of_clock (a : Word) (s : State) (r : ClockReg) (hp : place s a = .clock r)
    (hd : dmaHides s a = false) : memRead a s = (s.cart.latched.get r, s) := by
  simp [memRead, hd, hp]

/-- Held memory reads a free byte, whether an OAM DMA hides it too or not. -/
theorem memRead_of_held (a : Word) (s : State) (k : Nat) (hp : place s a = .held k) : memRead a s = drawByte a s := by
  simp [memRead, hp]

theorem memRead_of_absent (a : Word) (s : State) (hp : place s a = .absent) : memRead a s = drawByte a s := by
  simp [memRead, hp]

theorem memRead_of_isUnmapped (a : Word) (s : State) (h : isUnmapped a = true) :
    memRead a s = drawByte a (touchUnmapped s) := by
  simp [memRead, place_of_isUnmapped s a h, dmaHides_of_isUnmapped s a h]

theorem memWrite_of_rom (a : Word) (v : Byte) (s : State) (h : a.toNat < 0x8000) :
    memWrite a v s = cartCommand s a v := by
  simp [memWrite, place_rom_of_lt s a h]

theorem memWrite_of_held (a : Word) (v : Byte) (s : State) (k : Nat) (hp : place s a = .held k) :
    memWrite a v s = pokeFree k a s := by
  simp [memWrite, hp]

theorem memWrite_of_clock (a : Word) (v : Byte) (s : State) (r : ClockReg) (hp : place s a = .clock r) :
    memWrite a v s = writeClock r a v s := by
  simp [memWrite, hp]

theorem memWrite_of_device (a : Word) (v : Byte) (s : State) (hp : place s a = .device) :
    memWrite a v s = deviceWrite a v s := by
  simp [memWrite, hp]

theorem memWrite_of_absent (a : Word) (v : Byte) (s : State) (hp : place s a = .absent) : memWrite a v s = s := by
  simp [memWrite, hp]

theorem memWrite_of_isUnmapped (a : Word) (v : Byte) (s : State) (h : isUnmapped a = true) :
    memWrite a v s = touchUnmapped s := by
  simp [memWrite, place_of_isUnmapped s a h]

/-- Under `UNMAPPED_ACCESS = oracle` an unmapped access touches nothing. -/
theorem touchUnmapped_oracle (s : State) (h : s.cfg.unmapped = .oracle) : touchUnmapped s = s := by
  simp [touchUnmapped, h]

theorem touchUnmapped_refuse (s : State) (h : s.cfg.unmapped = .refuse) :
    touchUnmapped s = s.setOutOfSpec true := by
  simp [touchUnmapped, h]

/-! ### The banks (R398) -/

theorem vramBank_eq (s : State) : vramBank s = if s.cfg.variant = .cgb then s.vbk.toNat else 0 := by
  unfold vramBank; cases s.cfg.variant <;> rfl

theorem wramBank_eq (s : State) : wramBank s = if s.cfg.variant = .cgb then max 1 s.svbk.toNat else 1 := by
  unfold wramBank; cases s.cfg.variant <;> rfl

theorem vramHeld_iff (s : State) : vramHeld s = true ↔ s.lcdMode = 3 ∨ s.vramDma = true := by
  simp [vramHeld]

theorem oamHeld_iff (s : State) : oamHeld s = true ↔ 2 ≤ s.lcdMode.toNat := by
  simp [oamHeld]

/-! ### The cartridge's window at $A000 (R65, R67, R68) -/

/-- Without a controller, or while RAMG does not hold $0A, nothing is there (R68; log 17). -/
theorem cartPlace_absent (s : State) (a : Word) (h : s.cfg.cartridge.controller = .none ∨ s.cart.ramg ≠ 0x0A) :
    cartPlace s a = .absent := by
  have hw : cartWindow s a = .absent := by
    unfold cartWindow cartRamEnabled
    cases hc : s.cfg.cartridge.controller <;> simp_all
  simp [cartPlace, hw]

/-- The RAM bank number the controller's registers hold (R65, R67). -/
def selectedRamBank (s : State) : Nat :=
  match s.cfg.cartridge.controller with
  | .none => 0
  | .mbc3 => s.cart.ramb.toNat
  | .mbc5 => s.cart.ramb.toNat % (if s.cfg.cartridge.rumble = true then 4 else 16)

theorem mbc5RamBank_eq (s : State) :
    mbc5RamBank s = s.cart.ramb.toNat % (if s.cfg.cartridge.rumble = true then 4 else 16) := by
  have h3 : ∀ b : Byte, (b &&& 0x03).toNat = b.toNat % 4 := by decide
  have h15 : ∀ b : Byte, (b &&& 0x0F).toNat = b.toNat % 16 := by decide
  unfold mbc5RamBank
  split <;> simp only [h3, h15]

/-- The window on an enabled RAM is the one on the bank selected; of an MBC3, for a select of $00 to $03. -/
theorem cartWindow_of_enabled (s : State) (a : Word) (hc : s.cfg.cartridge.controller ≠ .none)
    (hg : s.cart.ramg = 0x0A) (h3 : s.cfg.cartridge.controller = .mbc3 → s.cart.ramb.toNat ≤ 3) :
    cartWindow s a = ramWindow s (selectedRamBank s) a := by
  have he : cartRamEnabled s = true := by simp [cartRamEnabled, hg]
  unfold cartWindow selectedRamBank
  cases hk : s.cfg.cartridge.controller
  case none => exact absurd hk hc
  case mbc3 =>
    have hn := h3 hk
    simp only [he, if_true, mbc3Window, hn]
    split <;> first | omega | rfl
  case mbc5 => simp only [he, if_true, mbc5RamBank_eq]

/-- A byte within the RAM's size of a bank stands at the bank's key (R62; log 31). -/
theorem cartPlace_of_ramWindow (s : State) (a : Word) (bank : Nat) (h : 0xA000 ≤ a.toNat) (h' : a.toNat < 0xC000)
    (hw : cartWindow s a = ramWindow s bank a)
    (hsize : bank * 8192 + (a.toNat - 0xA000) < s.cfg.cartridge.ramBytes) :
    cartPlace s a = .ram (bankKey bank a.toNat) := by
  have hbank : ramBank s bank = bank := if_pos (by unfold ramBanks; omega)
  have ho : cartWindow s a = .ram (bank * 8192 + (a.toNat - 0xA000)) := by
    rw [hw]; simp [ramWindow, hbank, hsize]
  have hdiv : (bank * 8192 + (a.toNat - 0xA000)) / 8192 = bank := by omega
  have haddr : 0xA000 + (bank * 8192 + (a.toNat - 0xA000)) % 8192 = a.toNat := by omega
  simp only [cartPlace, ho, hdiv, haddr]

/-- The selects of an MBC3's clock registers (R65). -/
def clockSelects : List (Byte × ClockReg) :=
  [(0x08, .sec), (0x09, .min), (0x0A, .hrs), (0x0B, .dayl), (0x0C, .dayh)]

/-- An MBC3 with a clock shows, while enabled, the clock register selected (R65). -/
theorem place_clock (s : State) (a : Word) (r : ClockReg) (h : 0xA000 ≤ a.toNat) (h' : a.toNat < 0xC000)
    (hc : s.cfg.cartridge.controller = .mbc3) (ht : s.cfg.cartridge.timer = true) (hg : s.cart.ramg = 0x0A)
    (hr : (s.cart.ramb, r) ∈ clockSelects) : place s a = .clock r := by
  have hw : cartWindow s a = .clock r := by
    simp only [clockSelects, List.mem_cons, List.not_mem_nil, or_false, Prod.mk.injEq] at hr
    obtain ⟨hb, rfl⟩ | ⟨hb, rfl⟩ | ⟨hb, rfl⟩ | ⟨hb, rfl⟩ | ⟨hb, rfl⟩ := hr <;>
      simp [cartWindow, cartRamEnabled, mbc3Window, clockWindow, hc, ht, hg, hb]
  rw [place_cart s a h h', cartPlace, hw]

/-! ### The ROM bank at $4000 (R62, R65, R67) -/

/-- Bank 0 below $4000, and above the bank shown there. -/
theorem romKey_of_romBank (s : State) (a : Word) (n : Nat) (hn : 1 ≤ n) (h : romBank s = n) :
    romKey s a = if a.toNat < 0x4000 then a.toNat else (n - 1) * 65536 + a.toNat := by
  obtain ⟨m, rfl⟩ : ∃ m, n = m + 1 := ⟨n - 1, by omega⟩
  simp [romKey, h, bankKey]

/-- A number that the spec lists is the bank shown (R62, R65, R67). -/
theorem romBank_of_listed (s : State) (n : Nat) (h : romBankNumber s = n) (hl : romBankListed s n = true) :
    romBank s = n := by
  simp [romBank, h, hl]

/-- A read below $8000 outside an OAM DMA, with a listed bank selected. -/
theorem memRead_rom_of_listed (s : State) (a : Word) (n : Nat) (hn : 1 ≤ n) (h : romBankNumber s = n)
    (hl : romBankListed s n = true) (hd : s.oamDma = false) (ha : a.toNat < 0x8000) :
    memRead a s = (s.mem.read (if a.toNat < 0x4000 then a.toNat else (n - 1) * 65536 + a.toNat), s) := by
  rw [← romKey_of_romBank s a n hn (romBank_of_listed s n h hl)]
  exact memRead_of_rom a s _ (place_rom_of_lt s a ha) (dmaHides_of_no_dma s a hd)

/-! ### The controller's commands (R64, R65, R67) -/

theorem memWrite_none (s : State) (a : Word) (v : Byte) (hc : s.cfg.cartridge.controller = .none)
    (h : a.toNat < 0x8000) : memWrite a v s = s := by
  simp [memWrite_of_rom a v s h, cartCommand, hc]

theorem memWrite_mbc3 (s : State) (a : Word) (v : Byte) (hc : s.cfg.cartridge.controller = .mbc3)
    (h : a.toNat < 0x8000) : memWrite a v s = s.setCart (mbc3Command s.cart a v) := by
  simp [memWrite_of_rom a v s h, cartCommand, hc]

theorem memWrite_mbc5 (s : State) (a : Word) (v : Byte) (hc : s.cfg.cartridge.controller = .mbc5)
    (h : a.toNat < 0x8000) : memWrite a v s = s.setCart (mbc5Command s.cart a v) := by
  simp [memWrite_of_rom a v s h, cartCommand, hc]

theorem mbc3Command_ramg (k : CartRegs) (a : Word) (v : Byte) (h : a.toNat < 0x2000) :
    mbc3Command k a v = { k with ramg := v } := by
  simp (disch := omega) only [mbc3Command, if_pos]

theorem mbc3Command_romb (k : CartRegs) (a : Word) (v : Byte) (h : 0x2000 ≤ a.toNat) (h' : a.toNat < 0x4000) :
    mbc3Command k a v = { k with romb0 := v } := by
  simp (disch := omega) only [mbc3Command, if_pos, if_neg]

theorem mbc3Command_ramb (k : CartRegs) (a : Word) (v : Byte) (h : 0x4000 ≤ a.toNat) (h' : a.toNat < 0x6000) :
    mbc3Command k a v = { k with ramb := v } := by
  simp (disch := omega) only [mbc3Command, if_pos, if_neg]

theorem mbc3Command_latch (k : CartRegs) (a : Word) (v : Byte) (h : 0x6000 ≤ a.toNat) :
    mbc3Command k a v = latchClock k v := by
  simp (disch := omega) only [mbc3Command, if_neg]

theorem mbc5Command_ramg (k : CartRegs) (a : Word) (v : Byte) (h : a.toNat < 0x2000) :
    mbc5Command k a v = { k with ramg := v } := by
  simp (disch := omega) only [mbc5Command, if_pos]

theorem mbc5Command_romb0 (k : CartRegs) (a : Word) (v : Byte) (h : 0x2000 ≤ a.toNat) (h' : a.toNat < 0x3000) :
    mbc5Command k a v = { k with romb0 := v } := by
  simp (disch := omega) only [mbc5Command, if_pos, if_neg]

theorem mbc5Command_romb1 (k : CartRegs) (a : Word) (v : Byte) (h : 0x3000 ≤ a.toNat) (h' : a.toNat < 0x4000) :
    mbc5Command k a v = { k with romb1 := v.setWidth 1 } := by
  simp (disch := omega) only [mbc5Command, if_pos, if_neg]

theorem mbc5Command_ramb (k : CartRegs) (a : Word) (v : Byte) (h : 0x4000 ≤ a.toNat) (h' : a.toNat < 0x6000) :
    mbc5Command k a v = { k with ramb := v } := by
  simp (disch := omega) only [mbc5Command, if_pos, if_neg]

theorem mbc5Command_rest (k : CartRegs) (a : Word) (v : Byte) (h : 0x6000 ≤ a.toNat) : mbc5Command k a v = k := by
  simp (disch := omega) only [mbc5Command, if_neg]

/-! ### The MBC3's clock (R65) -/

/-- $00 and then $01 latches the running clock (R65 Note 2). -/
theorem latchClock_latchClock (k : CartRegs) : (latchClock (latchClock k 0x00) 0x01).latched = k.live := by
  simp [latchClock]

/-- A stopped clock does not count. -/
theorem Clock.advance_of_stopped (k : Clock) (r : ClockReg) (v : Byte) (h : k.dayh.getLsbD 6 = true) :
    k.advance r v = k :=
  if_pos h

/-- A running clock counts every register but DAYH freely. -/
theorem Clock.advance_of_ne_dayh (k : Clock) (r : ClockReg) (v : Byte) (h : k.dayh.getLsbD 6 = false)
    (hr : r ≠ .dayh) : k.advance r v = k.set r v := by
  have hs : k.stopped = false := h
  cases r
  case dayh => exact absurd rfl hr
  all_goals simp [Clock.advance, hs]

/-- Of DAYH a running clock counts bit 0 and sets bit 7. -/
theorem Clock.advance_dayh (k : Clock) (v : Byte) (h : k.dayh.getLsbD 6 = false) :
    (k.advance .dayh v).dayh = (v &&& 0x81) ||| (k.dayh &&& 0xFE) := by
  have hs : k.stopped = false := h
  simp [Clock.advance, Clock.set, hs]

theorem Clock.set_dayh_of_ne (k : Clock) (r : ClockReg) (v : Byte) (hr : r ≠ .dayh) : (k.set r v).dayh = k.dayh := by
  cases r
  case dayh => exact absurd rfl hr
  all_goals rfl

/-- The day carry stays set while only the clock changes it (R65 Note 3). -/
theorem Clock.advance_keeps_carry (k : Clock) (r : ClockReg) (v : Byte) (h : k.dayh.getLsbD 7 = true) :
    (k.advance r v).dayh.getLsbD 7 = true := by
  cases hs : k.dayh.getLsbD 6
  case true => rw [Clock.advance_of_stopped k r v hs]; exact h
  case false =>
    by_cases hr : r = .dayh
    · subst hr
      rw [Clock.advance_dayh k v hs]
      simp [h]
    · rw [Clock.advance_of_ne_dayh k r v hs hr, Clock.set_dayh_of_ne k r v hr]
      exact h

/-! ### Device writes: OAM, VBK and SVBK (R393, R396, R398, R401) -/

/-- A device write changes no memory but OAM. -/
theorem deviceWrite_read (a : Word) (v : Byte) (s : State) (key : Nat) (hk : key < 0xFE00 ∨ 0xFEA0 ≤ key) :
    (deviceWrite a v s).mem.read key = s.mem.read key := by
  unfold deviceWrite
  dsimp only
  split
  · unfold startOamDma
    rw [setOamDma_mem]
    exact copyToOam_read v Config.oamDmaBytes key _ hk
  all_goals rfl

/-- A register that an address reaches has a row of the map at that address, on that variant. -/
theorem ioRegAt_some (v : Variant) (a : Word) (g : IoReg) (h : ioRegAt v a = some g) :
    ∃ r ∈ ioRows, r.reg = g ∧ r.addr = a.toNat ∧ r.onVariant v = true := by
  obtain ⟨r, hr, rfl⟩ := Option.map_eq_some_iff.1 h
  have hp := List.find?_some hr
  simp only [Bool.and_eq_true, beq_iff_eq] at hp
  exact ⟨r, List.mem_of_find?_eq_some hr, rfl, hp⟩

/-- A register with one row in the map, and that on CGB only, is reached on CGB at its address and nowhere else. -/
theorem ioRegAt_gbcOnly_iff (v : Variant) (a w : Word) (g : IoReg)
    (hrow : ∀ r ∈ ioRows, r.reg = g → r.addr = w.toNat ∧ r.gbcOnly = true) (hat : ioRegAt .cgb w = some g) :
    ioRegAt v a = some g ↔ v = .cgb ∧ a = w := by
  constructor
  · intro h
    obtain ⟨r, hr, hg, ha, hv⟩ := ioRegAt_some v a g h
    obtain ⟨hw, hgbc⟩ := hrow r hr hg
    exact ⟨by simpa [IoRow.onVariant, hgbc] using hv, BitVec.eq_of_toNat_eq (ha.symm.trans hw)⟩
  · rintro ⟨rfl, rfl⟩
    exact hat

theorem ioRegAt_vbk_iff (v : Variant) (a : Word) : ioRegAt v a = some .vbk ↔ v = .cgb ∧ a = 0xFF4F :=
  ioRegAt_gbcOnly_iff v a 0xFF4F .vbk (by decide) (by decide)

theorem ioRegAt_svbk_iff (v : Variant) (a : Word) : ioRegAt v a = some .svbk ↔ v = .cgb ∧ a = 0xFF70 :=
  ioRegAt_gbcOnly_iff v a 0xFF70 .svbk (by decide) (by decide)

theorem startOamDma_state (v : Byte) (s : State) :
    ∃ m q o, startOamDma v s = { s with mem := m, queries := q, outOfSpec := o, oamDma := true } := by
  obtain ⟨m, q, o, h⟩ := copyToOam_state v Config.oamDmaBytes s
  exact ⟨m, q, o, by rw [startOamDma, h]; rfl⟩

/-- The banks after a device write: each the bits written to its register, or what it was. -/
theorem deviceWrite_banks (a : Word) (v : Byte) (s : State) :
    (deviceWrite a v s).vbk = (if ioRegAt s.cfg.variant a = some .vbk then v.setWidth 1 else s.vbk) ∧
    (deviceWrite a v s).svbk = (if ioRegAt s.cfg.variant a = some .svbk then v.setWidth 3 else s.svbk) := by
  unfold deviceWrite
  dsimp only
  split
  case h_1 hr =>
    obtain ⟨m, q, o, h⟩ := startOamDma_state v (s.logWrite a v)
    rw [h, hr]
    exact ⟨rfl, rfl⟩
  all_goals simp_all

end Sys2Proof.Machine
end

section
/-!
PROOFS. What every step keeps of memory (20_memory.md R62, R64, R71): its canonical form, and every byte of ROM. Both
are properties that the building blocks of a step keep, so `StepKeeps.step` carries them over the step.
-/

namespace Sys2Proof.Machine

/-! ### The canonical form -/

theorem deliver_wf (e : DevEvent) (s : State) (h : s.memOk) : (deliver e s).memOk := by
  cases e
  case depositVram => exact Memory.wf_write _ _ _ h
  case depositOam =>
    unfold deliver
    dsimp only
    split
    · exact Memory.wf_write _ _ _ h
    · exact h
  all_goals exact h

theorem stepKeeps_memOk : StepKeeps State.memOk where
  read a s h := by unfold State.memOk; rw [memRead_mem]; exact h
  write := memWrite_wf
  regs _ _ h := h
  ime _ _ _ h := h
  mode _ _ h := h
  key1 _ _ h := h
  event := deliver_wf
  inbox _ _ h := h
  setIf _ _ h := h
  tick _ _ h := h
  clearMarker _ h := h

/-- Settles O42: the only operation on memory is `Memory.write`, which keeps the form. -/
theorem stepKeepsMemoryCanonical : Obligations.StepKeepsMemoryCanonical := by
  unfold Obligations.StepKeepsMemoryCanonical
  intro s t hs h
  exact stepKeeps_memOk.step s t h hs

/-! ### ROM -/

/-- Every byte of ROM, in every bank, is that of `s₀` (R62). -/
def sameRom (s₀ s : State) : Prop := ∀ key, key % 65536 < 0x8000 → s.mem.read key = s₀.mem.read key

/-- A byte of memory written outside the ROM area leaves ROM as it was. -/
theorem sameRom_write {s₀ s : State} (k : Nat) (v : Byte) (hk : 0x8000 ≤ k % 65536) (h : sameRom s₀ s) :
    sameRom s₀ (s.setMem (s.mem.write k v)) := by
  intro key hkey
  rw [setMem_mem, Memory.read_write_other _ _ _ _ (by rintro rfl; omega)]
  exact h key hkey

theorem memWrite_sameRom {s₀ : State} (a : Word) (v : Byte) (s : State) (h : sameRom s₀ s) :
    sameRom s₀ (memWrite a v s) := by
  cases hp : place s a <;> simp only [memWrite, hp]
  case rom =>
    obtain ⟨c, hc⟩ := cartCommand_state s a v
    rw [hc]; exact h
  case ram k =>
    have hk : 0x8000 ≤ k % 65536 := by rw [place_ram_key s a k hp]; exact le_of_place_ram s a k hp
    split <;> exact sameRom_write k _ hk h
  case held k =>
    obtain ⟨hk, ha⟩ := place_held_key s a k hp
    exact sameRom_write k _ (by omega) h
  case device =>
    intro key hkey
    rw [deviceWrite_read a v s key (by omega)]
    exact h key hkey
  case unmapped =>
    intro key hkey
    rw [touchUnmapped_mem]
    exact h key hkey
  all_goals exact h

/-- The devices deposit bytes in VRAM and in OAM, never in ROM (R75). -/
theorem deliver_sameRom {s₀ : State} (e : DevEvent) (s : State) (h : sameRom s₀ s) : sameRom s₀ (deliver e s) := by
  cases e
  case depositVram bank off v =>
    have := off.isLt
    exact sameRom_write _ v (by unfold bankKey; omega) h
  case depositOam off v =>
    unfold deliver
    dsimp only
    split
    · exact sameRom_write _ v (by omega) h
    · exact h
  all_goals exact h

theorem stepKeeps_sameRom (s₀ : State) : StepKeeps (sameRom s₀) where
  read a s h := by unfold sameRom; rw [memRead_mem]; exact h
  write := memWrite_sameRom
  regs _ _ h := h
  ime _ _ _ h := h
  mode _ _ h := h
  key1 _ _ h := h
  event := deliver_sameRom
  inbox _ _ h := h
  setIf _ _ h := h
  tick _ _ h := h
  clearMarker _ h := h

/-- Settles O44: a write to the ROM area is a command of the controller, and every other write, of the CPU, the OAM DMA
or a device, lands at $8000 or above. -/
theorem stepNeverChangesRom : Obligations.StepNeverChangesRom := by
  unfold Obligations.StepNeverChangesRom
  intro s t key h hkey
  exact (stepKeeps_sameRom s).step s t h (fun _ _ => rfl) key hkey

end Sys2Proof.Machine
end

section
/-!
PROOFS. Stores and the stack (20_memory.md R71, R72, R74, R76; 41_load16.md R161, R170, R171). An instruction that
stores is one or two `memWrite`, and after a `memWrite` of RAM every address but its own shows what it showed; the
proofs only find the writes in each instruction.
-/

namespace Sys2Proof.Machine

/-! ### What is shown after writes of RAM -/

/-- Registers are not memory: what an address shows does not depend on them. -/
@[simp] theorem peek_setRegs (s : State) (g : Regs) (b : Word) : peek (s.setRegs g) b = peek s b := rfl

/-- A write of RAM changes what no other address selects, nor whether the CPU can reach it. -/
theorem place_and_dmaHides_memWrite_ram (a b : Word) (v : Byte) (s : State) (k : Nat) (hp : place s a = .ram k)
    (hd : dmaHides s a = false) :
    place (memWrite a v s) b = place s b ∧ dmaHides (memWrite a v s) b = dmaHides s b := by
  rw [memWrite_of_ram a v s k hp hd]
  exact ⟨rfl, rfl⟩

/-- After two writes of RAM, first at `a` and then at `b`, both bytes are there and every other address shows what it
showed. -/
theorem peek_memWrite_memWrite_ram (a b c : Word) (v w : Byte) (s : State) (k j : Nat) (ha : place s a = .ram k)
    (hb : place s b = .ram j) (hda : dmaHides s a = false) (hdb : dmaHides s b = false) :
    peek (memWrite b w (memWrite a v s)) c = if c = b then some w else if c = a then some v else peek s c := by
  obtain ⟨hp, hd⟩ := place_and_dmaHides_memWrite_ram a b v s k ha hda
  rw [peek_memWrite_ram b c w _ j (hp.trans hb) (hd.trans hdb), peek_memWrite_ram a c v s k ha hda]

theorem word_ne_add_one (a : Word) : a ≠ a + 1 := by bv_omega

/-- A word written low byte first. -/
theorem peek_memWrite16_ram (a v b : Word) (s : State) (k j : Nat) (hk : place s a = .ram k)
    (hj : place s (a + 1) = .ram j) (hda : dmaHides s a = false) (hdb : dmaHides s (a + 1) = false) :
    peek (memWrite16 a v s) b = if b = a then some (lo8 v) else if b = a + 1 then some (hi8 v) else peek s b := by
  unfold memWrite16
  rw [peek_memWrite_memWrite_ram a (a + 1) b _ _ s k j hk hj hda hdb]
  split_ifs with h1 h2
  · exact absurd (h2.symm.trans h1) (word_ne_add_one a)
  all_goals rfl

/-- A word pushed. -/
theorem peek_push16_ram (v b : Word) (s : State) (k j : Nat) (hk : place s (s.regs.sp - 2) = .ram k)
    (hj : place s (s.regs.sp - 2 + 1) = .ram j) (hda : dmaHides s (s.regs.sp - 2) = false)
    (hdb : dmaHides s (s.regs.sp - 2 + 1) = false) :
    peek (push16 v s) b =
      if b = s.regs.sp - 2 then some (lo8 v) else if b = s.regs.sp - 2 + 1 then some (hi8 v) else peek s b := by
  have hsp : s.regs.sp - 1 = s.regs.sp - 2 + 1 := by bv_omega
  rw [push16_spec, peek_setRegs, hsp]
  exact peek_memWrite_memWrite_ram (s.regs.sp - 2 + 1) (s.regs.sp - 2) b _ _ s j k hj hk hdb hda

/-! ### Stores -/

/-- The instructions that change the byte at HL in place (R58). -/
def readModifyWrites (b : BitVec 3) : List Instr :=
  [.incHL, .decHL, .rlcHL, .rrcHL, .rlHL, .rrHL, .slaHL, .sraHL, .srlHL, .swapHL, .resHL b, .setHL b]

/-- Each of them reads the byte at HL, writes there once, and writes registers (R58). -/
theorem exec_of_readModifyWrite (b : BitVec 3) (i : Instr) (s : State) (hi : i ∈ readModifyWrites b) :
    ∃ v g, exec i s = .next ((memWrite s.hl v (memRead s.hl s).2).setRegs g) := by
  simp only [readModifyWrites, List.mem_cons, List.not_mem_nil, or_false] at hi
  obtain rfl | rfl | rfl | rfl | rfl | rfl | rfl | rfl | rfl | rfl | rfl | rfl := hi
  all_goals exact ⟨_, _, rfl⟩

/-- Settles O23: each store is one `memWrite` at its address, and each read-modify-write form one at HL. -/
theorem storeFrame : Obligations.StoreFrame := by
  unfold Obligations.StoreFrame
  intro lands s
  have store : ∀ (a : Word) (v : Byte) (g : Regs) (t : State),
      Host.Outcome.next ((memWrite a v s).setRegs g) = (.next t : Result) → lands s a v t := by
    rintro a v g t h ⟨k, hk⟩ hd b
    obtain rfl := Host.Outcome.next.inj h
    exact peek_memWrite_ram a b v s k hk hd
  refine ⟨fun _ => store _ _ _, fun _ => store _ _ _, fun _ => store _ _ _, fun _ => store _ _ _, store _ _ _,
    fun _ => store _ _ _, store _ _ _, store _ _ _, ?_⟩
  rintro b i t hi h ⟨k, hk⟩ hd c hc
  obtain ⟨v, g, he⟩ := exec_of_readModifyWrite b i s hi
  rw [memRead_of_ram _ _ k hk hd] at he
  obtain rfl := Host.Outcome.next.inj (he.symm.trans h)
  rw [peek_setRegs, peek_memWrite_ram _ _ _ _ k hk hd, if_neg hc]

/-- Settles O24: LD (n16),SP is `memWrite16`, and PUSH, CALL and RST are `push16`. -/
theorem wordStoreFrame : Obligations.WordStoreFrame := by
  unfold Obligations.WordStoreFrame
  intro lands s
  have pushed : ∀ (v : Word) (g : Regs) (t : State),
      Host.Outcome.next ((push16 v s).setRegs g) = (.next t : Result) → lands s (s.regs.sp - 2) v t := by
    rintro v g t h ⟨k, hk⟩ ⟨j, hj⟩ hda hdb b
    obtain rfl := Host.Outcome.next.inj h
    exact peek_push16_ram v b s k j hk hj hda hdb
  refine ⟨?_, fun _ => pushed _ _, fun _ => pushed _ _, ?_, fun _ => pushed _ _⟩
  · rintro a t h ⟨k, hk⟩ ⟨j, hj⟩ hda hdb b
    obtain rfl := Host.Outcome.next.inj h
    exact peek_memWrite16_ram a _ b s k j hk hj hda hdb
  · intro cc a t h hc
    simp only [exec, execCallCC, hc, if_true] at h
    exact pushed _ _ t h

/-! ### The stack -/

/-- A byte of a word masked is that byte masked. -/
theorem hi8_and (v w : Word) : hi8 (v &&& w) = hi8 v &&& hi8 w := BitVec.extractLsb'_and

theorem lo8_and (v w : Word) : lo8 (v &&& w) = lo8 v &&& lo8 w := BitVec.extractLsb'_and

/-- The low nibble of F reads as zero (R27). -/
theorem toByte_low_nibble (f : Flags) : f.toByte &&& 0x0F = 0 := by
  obtain ⟨z, n, h, c⟩ := f
  revert z n h c
  decide

/-- Writing a pair and writing SP do not meet. -/
theorem set16Stk_with_sp (g : Regs) (p : R16Stk) (v w : Word) :
    ({ g with sp := w } : Regs).set16Stk p v = { g.set16Stk p v with sp := w } := by
  cases p <;> rfl

/-- A word through AF: its high byte is A, and the flags keep bits 7 to 4 of its low byte (R27). -/
theorem get16Stk_set16Stk_af (g : Regs) (v : Word) : (g.set16Stk .af v).get16Stk .af = v &&& 0xFFF0 := by
  have hi : hi8 (v &&& 0xFFF0) = hi8 v := (hi8_and v _).trans BitVec.and_allOnes
  have lo : lo8 (v &&& 0xFFF0) = lo8 v &&& 0xF0 := lo8_and v _
  calc (g.set16Stk .af v).get16Stk .af = pair16 (hi8 v) (lo8 v &&& 0xF0) := by
        simp only [Regs.set16Stk, Regs.get16Stk, toByte_ofByte]
    _ = v &&& 0xFFF0 := by rw [← hi, ← lo, pair16_hi8_lo8]

/-- Settles O25: PUSH and POP are `push16` and `pop16` on the pair; AF is masked as F is. -/
theorem pushAndPopResults : Obligations.PushAndPopResults := by
  unfold Obligations.PushAndPopResults
  intro s
  refine ⟨fun p => ?push, fun p => ?pop, ?low, fun v => get16Stk_set16Stk_af s.regs v⟩
  case push => simp only [exec, execPushR16, getR16Stk_eq, push16_spec]
  case pop =>
    simp only [exec, execPopR16, pop16_spec, setR16Stk_eq, setRegs_regs, setRegs_setRegs, set16Stk_with_sp]
  case low => simp only [Regs.get16Stk, lo8_pair16, toByte_low_nibble]

end Sys2Proof.Machine
end

section
/-!
PROOFS. Memory and the bus (20_memory.md R51, R52, R59, R62 to R71; 60_exceptions.md R393 to R398): for each kind of
address what a read answers and what a write leaves behind. The lemmas about places say which kind an address is.
-/

namespace Sys2Proof.Machine

/-! ### What an access changes (R70, R71) -/

/-- Settles O49: of a read the cases are those of `memRead_cases`, of a write the fields are its frame. -/
theorem accessesLeaveTheCpuAlone : Obligations.AccessesLeaveTheCpuAlone := by
  unfold Obligations.AccessesLeaveTheCpuAlone
  intro s a v
  refine ⟨?_, memWrite_regs a v s, memWrite_ime a v s, memWrite_eiDelay a v s, memWrite_mode a v s,
    memWrite_cfg a v s⟩
  obtain h | h | ⟨hp, h⟩ := memRead_cases a s
  · exact .inl h
  · exact .inr (.inl h)
  · cases hu : s.cfg.unmapped
    case oracle =>
      rw [touchUnmapped_oracle s hu] at h
      exact .inr (.inl h)
    case refuse =>
      rw [touchUnmapped_refuse s hu] at h
      exact .inr (.inr ⟨rfl, (isUnmapped_iff a).1 (isUnmapped_of_place s a hp), h⟩)

/-- Settles O55: an unmapped access draws a byte at most and touches the marker; an absent one does not even that. -/
theorem unmappedAccessesNeverFault : Obligations.UnmappedAccessesNeverFault := by
  unfold Obligations.UnmappedAccessesNeverFault
  intro s a v x
  refine ⟨fun hr => ?unmapped, fun h h' hc => ?absent⟩
  case unmapped =>
    have hu := (isUnmapped_iff a).2 hr
    rw [memWrite_of_isUnmapped a v s hu, memRead_of_isUnmapped a s hu]
    refine ⟨fun ho => ?_, fun ho => ?_⟩
    · rw [touchUnmapped_oracle s ho]
      exact ⟨rfl, rfl⟩
    · rw [touchUnmapped_refuse s ho]
      exact ⟨rfl, rfl⟩
  case absent =>
    have hp : place s a = .absent := (place_cart s a h h').trans (cartPlace_absent s a hc)
    exact ⟨memWrite_of_absent a v s hp, memRead_of_absent a s hp⟩

/-! ### RAM (R59, R65, R67, R396, R398) -/

/-- RAM the CPU can reach holds what is written to it, and nothing else is touched. -/
theorem ram_reads_back (s : State) (a : Word) (v : Byte) (key : Nat) (hp : place s a = .ram key)
    (hd : dmaHides s a = false) :
    memRead a (memWrite a v s) = (v, memWrite a v s) ∧
    memWrite a v s = { s with mem := (memWrite a v s).mem } ∧
    (memWrite a v s).mem.read key = v ∧
    ∀ k, k ≠ key → (memWrite a v s).mem.read k = s.mem.read k := by
  rw [memWrite_of_ram a v s key hp hd, poke_eq]
  have hread : (s.setMem (s.mem.write key v)).mem.read key = v := Memory.read_write_same s.mem key v
  refine ⟨?_, rfl, hread, fun k hk => Memory.read_write_other s.mem key k v hk⟩
  rw [memRead_of_ram a (s.setMem (s.mem.write key v)) key hp hd, hread]

/-- Settles O50: each hypothesis names a byte of RAM that the CPU can reach. -/
theorem ramReadsBackWhatWasWritten : Obligations.RamReadsBackWhatWasWritten := by
  unfold Obligations.RamReadsBackWhatWasWritten
  intro ramBankOf s a v key h
  obtain ⟨h, h', rfl⟩ | ⟨hdma, h⟩ := h
  · exact ram_reads_back s a v _ (place_highRam s a h h') (dmaHides_highRam s a h h')
  · refine ram_reads_back s a v key ?_ (dmaHides_of_no_dma s a hdma)
    obtain ⟨h, h', rfl⟩ | ⟨h, h', rfl⟩ | ⟨h, h', hl, hv, rfl⟩ | ⟨h, h', hl, rfl⟩ | ⟨h, h', hc, hg, h3, hsize, rfl⟩ := h
    · exact place_wram s a h h'
    · rw [place_wramBanked s a h h', wramBank_eq]
      rfl
    · have hfree : vramHeld s = false := by
        rw [← Bool.not_eq_true, vramHeld_iff, not_or, Bool.not_eq_true]
        exact ⟨hl, hv⟩
      rw [place_vram s a h h', hfree, vramBank_eq]
      rfl
    · have hfree : oamHeld s = false := by
        rw [← Bool.not_eq_true, oamHeld_iff]
        omega
      rw [place_oam s a h h', hfree]
      rfl
    · rw [place_cart s a h h']
      exact cartPlace_of_ramWindow s a (selectedRamBank s) h h' (cartWindow_of_enabled s a hc hg h3) hsize

/-- Held memory answers and takes a free byte. -/
theorem held_is_free (s : State) (a : Word) (v : Byte) (here key : Nat) (hp : place s a = .held here)
    (hk : key ≠ here) :
    memRead a s = (Config.oracleByte s.queries s.devLog a.toNat, { s with queries := s.queries + 1 }) ∧
    (memWrite a v s).mem.read here = Config.oracleByte s.queries s.devLog a.toNat ∧
    (memWrite a v s).mem.read key = s.mem.read key ∧ (memWrite a v s).regs = s.regs := by
  refine ⟨memRead_of_held a s here hp, ?_, ?_, memWrite_regs a v s⟩ <;> rw [memWrite_of_held a v s here hp]
  · exact Memory.read_write_same s.mem here _
  · exact Memory.read_write_other s.mem here key _ hk

/-- Settles O59: each hypothesis names a byte that the LCD controller or a transfer holds. -/
theorem lockedVideoRamIsFree : Obligations.LockedVideoRamIsFree := by
  unfold Obligations.LockedVideoRamIsFree
  intro s a v here key h hk
  refine held_is_free s a v here key ?_ hk
  obtain ⟨h, h', hl, rfl⟩ | ⟨h, h', hl, rfl⟩ := h
  · rw [place_vram s a h h', (vramHeld_iff s).2 hl, vramBank_eq]
    rfl
  · have hheld : oamHeld s = true := by
      rw [oamHeld_iff]
      obtain hl | hl := hl <;> rw [hl] <;> decide
    rw [place_oam s a h h', hheld]
    rfl

/-! ### The controller (R62, R64, R65, R67) -/

/-- Settles O52: a write below $8000 is a command, and each command sets the register of its range. -/
theorem romWritesAreCommands : Obligations.RomWritesAreCommands := by
  unfold Obligations.RomWritesAreCommands
  intro s a v ha t
  refine ⟨?frame, fun hc => memWrite_none s a v hc ha, fun hc => ?mbc3, fun hc => ?mbc5⟩
  case frame =>
    obtain ⟨c, h⟩ := cartCommand_state s a v
    have ht : t = s.setCart c := (memWrite_of_rom a v s ha).trans h
    rw [ht]
    rfl
  case mbc3 =>
    have ht : t = s.setCart (mbc3Command s.cart a v) := memWrite_mbc3 s a v hc ha
    rw [ht, setCart_cart]
    exact ⟨mbc3Command_ramg _ a v, mbc3Command_romb _ a v, mbc3Command_ramb _ a v⟩
  case mbc5 =>
    have ht : t = s.setCart (mbc5Command s.cart a v) := memWrite_mbc5 s a v hc ha
    rw [ht, setCart_cart]
    refine ⟨mbc5Command_ramg _ a v, mbc5Command_romb0 _ a v, mbc5Command_romb1 _ a v, mbc5Command_ramb _ a v,
      fun h => ?_⟩
    rw [mbc5Command_rest _ a v h]
    rfl

/-- An MBC5's bank number after both its halves were written (R67). -/
theorem memWrite_mbc5_bank (s : State) (lo hi : Byte) (hc : s.cfg.cartridge.controller = .mbc5) :
    memWrite 0x3000 hi (memWrite 0x2000 lo s) = s.setCart { s.cart with romb0 := lo, romb1 := hi.setWidth 1 } := by
  rw [memWrite_mbc5 s 0x2000 lo hc (by decide), mbc5Command_romb0 _ 0x2000 lo (by decide) (by decide),
    memWrite_mbc5 (s.setCart { s.cart with romb0 := lo }) 0x3000 hi hc (by decide),
    mbc5Command_romb1 _ 0x3000 hi (by decide) (by decide)]
  rfl

/-- Settles O53: the nine bits written are the bank number. -/
theorem mbc5SelectsRomBank : Obligations.Mbc5SelectsRomBank := by
  unfold Obligations.Mbc5SelectsRomBank
  intro s n a hc hn hsize h512 hd ha t
  have ht : t = s.setCart
      { s.cart with romb0 := BitVec.ofNat 8 n, romb1 := (BitVec.ofNat 8 (n / 256)).setWidth 1 } :=
    memWrite_mbc5_bank s _ _ hc
  rw [ht]
  refine memRead_rom_of_listed (s.setCart _) a n hn ?number ?listed hd ha
  case number =>
    simp only [romBankNumber, setCart_cfg, setCart_cart, hc, BitVec.toNat_setWidth, BitVec.toNat_ofNat]
    omega
  case listed => simp [romBankListed, hc, hn, hsize]

/-- Settles O54: the bank number, the latch, the clock in the window and the clock's own counting, each by its lemma. -/
theorem mbc3LatchAndDayCarry : Obligations.Mbc3LatchAndDayCarry := by
  unfold Obligations.Mbc3LatchAndDayCarry
  intro s hc
  refine ⟨?bank, ?latch, ?read, ?write, ?count⟩
  case bank =>
    intro n w a hn h7F hsize hd hw hw' ha
    rw [memWrite_mbc3 s w n hc (by omega), mbc3Command_romb _ w n hw hw']
    refine memRead_rom_of_listed (s.setCart { s.cart with romb0 := n }) a n.toNat hn ?_ ?_ hd ha
    · simp [romBankNumber, hc]
    · simp [romBankListed, hc, hn, h7F, hsize]
  case latch =>
    intro a b ha ha' hb hb'
    rw [memWrite_mbc3 s a 0x00 hc ha', mbc3Command_latch _ a _ ha,
      memWrite_mbc3 (s.setCart (latchClock s.cart 0x00)) b 0x01 hc hb', mbc3Command_latch _ b _ hb]
    exact latchClock_latchClock s.cart
  case read =>
    intro a h h' hd ht hg
    have shown : ∀ r, (s.cart.ramb, r) ∈ clockSelects → memRead a s = (s.cart.latched.get r, s) := fun r hr =>
      memRead_of_clock a s r (place_clock s a r h h' hc ht hg hr) (dmaHides_of_no_dma s a hd)
    refine ⟨fun hb => shown .sec ?_, fun hb => shown .min ?_, fun hb => shown .hrs ?_, fun hb => shown .dayl ?_,
      fun hb => shown .dayh ?_⟩ <;> rw [hb] <;> decide
  case write =>
    rintro a v n r h h' ht hg rfl hr
    rw [memWrite_of_clock a v s r (place_clock s a r h h' hc ht hg hr)]
    refine ⟨rfl, ?_⟩
    rintro rfl
    rfl
  case count =>
    intro r v
    refine ⟨fun hs => ?_, fun hs hr => Clock.advance_of_ne_dayh _ r v hs hr, fun hs => ?_,
      Clock.advance_keeps_carry s.cart.live r v⟩
    · simp only [deliver, Clock.advance_of_stopped _ r v hs]
      rfl
    · have hk : (deliver (.clockTick .dayh v) s).cart.live.dayh = _ := Clock.advance_dayh s.cart.live v hs
      rw [hk]
      simp

/-! ### Device registers (R71, R393, R398) -/

/-- Settles O56: the address selects a device, and what a device write can change is said of `deviceWrite`. -/
theorem deviceWritesAreRecorded : Obligations.DeviceWritesAreRecorded := by
  unfold Obligations.DeviceWritesAreRecorded
  intro s a v h h' hif t
  have hne : a.toNat ≠ 0xFF0F := fun e => hif (BitVec.eq_of_toNat_eq e)
  have ht : t = deviceWrite a v s := memWrite_of_device a v s (place_device s a h h' hne)
  obtain ⟨m, q, o, d, k, vb, sv, vd, hw⟩ := deviceWrite_state a v s
  obtain ⟨hvbk, hsvbk⟩ := deviceWrite_banks a v s
  simp only [ioRegAt_vbk_iff] at hvbk
  simp only [ioRegAt_svbk_iff] at hsvbk
  rw [ht]
  exact ⟨deviceWrite_devLog a v s, by rw [hw], by rw [hw], by rw [hw], hvbk, hsvbk⟩

end Sys2Proof.Machine
end

section
/-!
PROOFS. The decoder and the encoder are inverse to each other (30_encoding.md R90, R106, R107, R112, R119). A byte list
that starts with an encoding is read by cases on the instruction. In the other direction the operand bytes are split off:
what byte 0 and the byte after $CB spell is a fact about the 256 values of one byte each, and what the operands spell is a
fact about the rows of the tables, whatever the operands are.
-/

namespace Sys2Proof

/-! ### The length of what is decoded (R90, R115) -/

/-- The instruction that the bytes of a list spell, where bytes beyond its end are 0: what `decode` answers when the list
is long enough (`decode_cons`). -/
def leading : List Byte → Instr
  | [] => decodeBytes 0 0 0
  | b0 :: tail => decodeBytes b0 (tail.getD 0 0) (tail.getD 1 0)

theorem decode_cons (b0 : Byte) (tail : List Byte) :
    decode (b0 :: tail) =
      if tail.length + 1 < instrSize b0 then .error (.truncated b0)
      else .ok (leading (b0 :: tail), tail.drop (instrSize b0 - 1)) := rfl

theorem size_leading_cons (b0 : Byte) (tail : List Byte) : (leading (b0 :: tail)).size = instrSize b0 :=
  size_decodeBytes b0 _ _

/-- Bytes of exactly the length that the first of them calls for are decoded, and the others are left over. -/
theorem decode_append (b0 : Byte) (operands rest : List Byte) (h : instrSize b0 = operands.length + 1) :
    decode (b0 :: operands ++ rest) = .ok (leading (b0 :: operands ++ rest), rest) := by
  simp [decode_cons, h]

/-- What decodes is a first byte, the operands it calls for, and the rest. -/
theorem decode_ok (bytes rest : List Byte) (i : Instr) (h : decode bytes = .ok (i, rest)) :
    ∃ b0 operands, bytes = b0 :: operands ++ rest ∧ instrSize b0 = operands.length + 1 ∧ i = leading bytes := by
  cases bytes with
  | nil => cases h
  | cons b0 tail =>
    rw [decode_cons] at h
    split at h
    · cases h
    · rename_i hlen
      obtain ⟨rfl, rfl⟩ := Prod.mk.inj (Except.ok.inj h)
      have hsize := instrSize_cases b0
      refine ⟨b0, tail.take (instrSize b0 - 1), by simp, ?_, rfl⟩
      rw [List.length_take]
      omega

/-- An encoding is as long as R115 says. -/
theorem length_encode (i : Instr) : (encode i).length = i.size := by
  cases i <;> rfl

/-! ### Decoding an encoding -/

/-- The eight operands of RST (R99). -/
theorem rstTarget_iff (f : Byte) :
    rstTarget f = true ↔ f ∈ [(0x00 : Byte), 0x08, 0x10, 0x18, 0x20, 0x28, 0x30, 0x38] := by
  revert f; decide

/-- The bit number is field y of the byte after $CB, and code 110 in field z is the byte at HL (R94, R99, R105). -/
theorem decodeCB_bitNumber_hl (b : BitVec 3) :
    decodeCB (0x46 ||| (bitCode b <<< 3)) = .bitHL b ∧ decodeCB (0x86 ||| (bitCode b <<< 3)) = .resHL b ∧
    decodeCB (0xC6 ||| (bitCode b <<< 3)) = .setHL b := by
  revert b; decide

theorem decodeCB_bitNumber_r8 (b : BitVec 3) (r : R8) :
    decodeCB (0x40 ||| r.code ||| (bitCode b <<< 3)) = .bitR8 b r ∧
    decodeCB (0x80 ||| r.code ||| (bitCode b <<< 3)) = .resR8 b r ∧
    decodeCB (0xC0 ||| r.code ||| (bitCode b <<< 3)) = .setR8 b r := by
  revert b; cases r <;> decide

/-- After a first byte $CB the second table is read (R92, R105). -/
theorem leading_cb (op : Byte) (tail : List Byte) : leading (0xCB :: op :: tail) = decodeCB op := rfl

/-- An encoding spells its instruction, whatever bytes follow: one case for each kind of operand. -/
theorem leading_encode (i : Instr) (rest : List Byte) (h : WellFormed i = true) : leading (encode i ++ rest) = i := by
  cases i
  case bitHL b => exact (leading_cb _ rest).trans (decodeCB_bitNumber_hl b).1
  case resHL b => exact (leading_cb _ rest).trans (decodeCB_bitNumber_hl b).2.1
  case setHL b => exact (leading_cb _ rest).trans (decodeCB_bitNumber_hl b).2.2
  case bitR8 b r => exact (leading_cb _ rest).trans (decodeCB_bitNumber_r8 b r).1
  case resR8 b r => exact (leading_cb _ rest).trans (decodeCB_bitNumber_r8 b r).2.1
  case setR8 b r => exact (leading_cb _ rest).trans (decodeCB_bitNumber_r8 b r).2.2
  case rst f =>
    have hf := (rstTarget_iff f).1 h
    simp only [List.mem_cons, List.not_mem_nil, or_false] at hf
    obtain rfl | rfl | rfl | rfl | rfl | rfl | rfl | rfl := hf <;> rfl
  case callN16 a => exact congrArg Instr.callN16 (pair16_hi8_lo8 a)
  case jpN16 a => exact congrArg Instr.jpN16 (pair16_hi8_lo8 a)
  case ldN16A a => exact congrArg Instr.ldN16A (pair16_hi8_lo8 a)
  case ldN16SP a => exact congrArg Instr.ldN16SP (pair16_hi8_lo8 a)
  case ldAN16 a => exact congrArg Instr.ldAN16 (pair16_hi8_lo8 a)
  case callCC cc a => cases cc <;> exact congrArg (Instr.callCC _) (pair16_hi8_lo8 a)
  case jpCC cc a => cases cc <;> exact congrArg (Instr.jpCC _) (pair16_hi8_lo8 a)
  case ldR16N16 p n => cases p <;> exact congrArg (Instr.ldR16N16 _) (pair16_hi8_lo8 n)
  case retCC cc => cases cc <;> rfl
  case jrCC cc _ => cases cc <;> rfl
  case addHLR16 p | decR16 p | incR16 p | ldR16A p | ldAR16 p | popR16 p | pushR16 p => cases p <;> rfl
  case ldR8R8 dst r => cases dst <;> cases r <;> rfl
  case ldR8N8 dst _ => cases dst <;> rfl
  case adcAR8 r | addAR8 r | andR8 r | cpR8 r | decR8 r | incR8 r | ldHLR8 r | ldR8HL r | orR8 r | sbcAR8 r | subR8 r |
      xorR8 r =>
    cases r <;> rfl
  case rlR8 r | rlcR8 r | rrR8 r | rrcR8 r | slaR8 r | sraR8 r | srlR8 r | swapR8 r =>
    cases r <;> exact (leading_cb _ rest).trans rfl
  case rlHL | rlcHL | rrHL | rrcHL | slaHL | sraHL | srlHL | swapHL => exact (leading_cb _ rest).trans rfl
  all_goals rfl

/-- Settles O1: the first byte of an encoding calls for the bytes that the encoding has, and they spell the
instruction. -/
theorem decodeOfEncode : Obligations.DecodeOfEncode := by
  unfold Obligations.DecodeOfEncode
  intro i rest hw
  have hi : leading (encode i ++ rest) = i := leading_encode i rest hw
  have hlen : (encode i).length = i.size := length_encode i
  cases he : encode i with
  | nil => exact absurd i.size_pos (by simp [← hlen, he])
  | cons b0 operands =>
    rw [he] at hi hlen
    have hsize : instrSize b0 = operands.length + 1 := by
      rw [← size_leading_cons b0 (operands ++ rest), ← List.cons_append, hi, ← hlen, List.length_cons]
    rw [decode_append b0 operands rest hsize, hi]

/-! ### Encoding what was decoded -/

/-- The second table spells every value of its byte (R107). -/
theorem encode_decodeCB (op : Byte) : encode (decodeCB op) = [0xCB, op] := by
  revert op; decide

/-- The first table spells every value of byte 0 (R106). -/
theorem head_encode_decodeBytes_zero (b0 : Byte) : (encode (decodeBytes b0 0 0)).head? = some b0 := by
  revert b0; decide

/-- The encoding of `i` has the first byte that the encoding of `j` has, and after it as many of the bytes b1, b2 as the
size of `i` calls for. -/
def SpellsOperands (i j : Instr) (b1 b2 : Byte) : Prop :=
  (encode i).head? = (encode j).head? ∧ (encode i).tail = [b1, b2].take (i.size - 1)

/-- Block x = 00: the operand bytes are spelled as they were read, and byte 0 does not depend on them. -/
theorem decodeX0_spellsOperands (op b1 b2 : Byte) :
    SpellsOperands (decodeX0 op b1 (pair16 b2 b1)) (decodeX0 op 0 (pair16 0 0)) b1 b2 := by
  unfold decodeX0
  dsimp only
  split <;> first
    | exact ⟨rfl, rfl⟩
    | (split <;> exact ⟨rfl, rfl⟩)
    | simp [SpellsOperands, encode, Instr.size]

/-- Block x = 01 has no operand bytes. -/
theorem decodeX1_spellsOperands (op b1 b2 : Byte) : SpellsOperands (decodeX1 op) (decodeX1 op) b1 b2 := by
  unfold decodeX1
  split <;> exact ⟨rfl, rfl⟩

/-- Block x = 10 has no operand bytes. -/
theorem decodeX2_spellsOperands (op b1 b2 : Byte) : SpellsOperands (decodeX2 op) (decodeX2 op) b1 b2 := by
  unfold decodeX2
  split <;> exact ⟨rfl, rfl⟩

/-- The second table has one operand byte, the one after $CB (R107). -/
theorem decodeCB_spellsOperands (b1 b2 : Byte) : SpellsOperands (decodeCB b1) (decodeCB 0) b1 b2 := by
  simp [SpellsOperands, encode_decodeCB, size_decodeCB]

/-- Block x = 11, with the second table in one of its rows. -/
theorem decodeX3_spellsOperands (op b1 b2 : Byte) :
    SpellsOperands (decodeX3 op b1 (pair16 b2 b1)) (decodeX3 op 0 (pair16 0 0)) b1 b2 := by
  unfold decodeX3
  dsimp only
  split <;> first
    | exact ⟨rfl, rfl⟩
    | exact decodeCB_spellsOperands b1 b2
    | simp [SpellsOperands, encode, Instr.size]

theorem decodeBytes_spellsOperands (b0 b1 b2 : Byte) :
    SpellsOperands (decodeBytes b0 b1 b2) (decodeBytes b0 0 0) b1 b2 := by
  unfold decodeBytes
  split
  · exact decodeX0_spellsOperands b0 b1 b2
  · exact decodeX1_spellsOperands b0 b1 b2
  · exact decodeX2_spellsOperands b0 b1 b2
  · exact decodeX3_spellsOperands b0 b1 b2

/-- What three bytes decode to is spelled by the first of them and the operands it calls for. -/
theorem encode_decodeBytes (b0 b1 b2 : Byte) :
    encode (decodeBytes b0 b1 b2) = b0 :: [b1, b2].take (instrSize b0 - 1) := by
  obtain ⟨hhead, htail⟩ := decodeBytes_spellsOperands b0 b1 b2
  rw [head_encode_decodeBytes_zero, List.head?_eq_some_iff] at hhead
  obtain ⟨operands, h⟩ := hhead
  rw [size_decodeBytes, h, List.tail_cons] at htail
  rw [h, htail]

/-- A list that holds the bytes its first calls for starts with the encoding of what it spells. -/
theorem encode_leading (b0 : Byte) (operands rest : List Byte) (h : instrSize b0 = operands.length + 1) :
    encode (leading (b0 :: operands ++ rest)) = b0 :: operands := by
  have hsize := instrSize_cases b0
  refine (encode_decodeBytes b0 _ _).trans ?_
  rw [h]
  match operands with
  | [] | [_] | [_, _] => rfl
  | _ :: _ :: _ :: _ => simp only [h, List.length_cons] at hsize; omega

/-! ### What decodes is well-formed (R99) -/

/-- Bits 5 to 3 of a byte are an operand of RST. -/
theorem rstTarget_field (op : Byte) : rstTarget (op &&& 0x38) = true := by
  simp [rstTarget, BitVec.and_assoc]

theorem decodeX0_wellFormed (op b1 : Byte) (n16 : Word) : WellFormed (decodeX0 op b1 n16) = true := by
  unfold decodeX0
  dsimp only
  split <;> first | rfl | (split <;> rfl)

theorem decodeX1_wellFormed (op : Byte) : WellFormed (decodeX1 op) = true := by
  unfold decodeX1
  split <;> rfl

theorem decodeX2_wellFormed (op : Byte) : WellFormed (decodeX2 op) = true := by
  unfold decodeX2
  split <;> rfl

theorem decodeCB_wellFormed (op : Byte) : WellFormed (decodeCB op) = true := by
  unfold decodeCB
  dsimp only
  split <;> rfl

theorem decodeX3_wellFormed (op b1 : Byte) (n16 : Word) : WellFormed (decodeX3 op b1 n16) = true := by
  unfold decodeX3
  dsimp only
  split <;> first | rfl | exact decodeCB_wellFormed b1 | exact rstTarget_field op

theorem decodeBytes_wellFormed (b0 b1 b2 : Byte) : WellFormed (decodeBytes b0 b1 b2) = true := by
  unfold decodeBytes
  split
  · exact decodeX0_wellFormed ..
  · exact decodeX1_wellFormed ..
  · exact decodeX2_wellFormed ..
  · exact decodeX3_wellFormed ..

/-- Settles O2: the bytes are a first byte, the operands it calls for and the rest, and the instruction's encoding is the
first two of the three. -/
theorem encodeOfDecode : Obligations.EncodeOfDecode := by
  unfold Obligations.EncodeOfDecode
  intro bytes i rest h
  obtain ⟨b0, operands, rfl, hsize, rfl⟩ := decode_ok bytes rest i h
  exact ⟨decodeBytes_wellFormed .., by rw [encode_leading b0 operands rest hsize]⟩

/-! ### Undefined opcodes and the spec's examples -/

/-- A value of byte 0 that is the whole encoding of an instruction decodes to it, and no other value does (R106). -/
theorem decodeBytes_eq_iff (b0 b1 b2 b : Byte) (i : Instr) (hw : WellFormed i = true) (hi : encode i = [b]) :
    decodeBytes b0 b1 b2 = i ↔ b0 = b := by
  constructor
  · intro h
    have he := encode_decodeBytes b0 b1 b2
    rw [h, hi] at he
    exact (List.cons.inj he).1.symm
  · rintro rfl
    have hd := leading_encode i [b1, b2] hw
    rw [hi] at hd
    exact hd

/-- Settles O4: each undefined opcode is encoded by its own value of byte 0. -/
theorem undefinedOpcodesAreEleven : Obligations.UndefinedOpcodesAreEleven := by
  unfold Obligations.UndefinedOpcodesAreEleven
  intro b0 b1 b2
  simp only [List.mem_cons, List.not_mem_nil, or_false]
  iterate 10 refine or_congr (decodeBytes_eq_iff b0 b1 b2 _ _ rfl rfl) ?_
  exact decodeBytes_eq_iff b0 b1 b2 _ _ rfl rfl

/-- Settles O3: the decoder evaluates to each instruction. -/
theorem exampleWordsDecode : Obligations.ExampleWordsDecode := by
  unfold Obligations.ExampleWordsDecode
  exact ⟨rfl, rfl, rfl, rfl, rfl, rfl, rfl, rfl, rfl, rfl, rfl, rfl, rfl, rfl, rfl, rfl⟩

end Sys2Proof

namespace Sys2Proof.Machine

/-- A locked machine stays as it is (R366). -/
theorem step_of_locked (s : State) (h : s.mode = .locked) : step s = .next s := by
  simp [step, stepOnce, h]

/-- Settles O34: an undefined opcode locks the machine up, a locked machine does not change, and its run is not
completed. -/
theorem undefinedOpcodesLock : Obligations.UndefinedOpcodesLock := by
  unfold Obligations.UndefinedOpcodesLock
  exact ⟨fun s i hi => exec_of_undefined i s hi, step_of_locked, run_locked⟩

end Sys2Proof.Machine
end

section
/-!
PROOFS. The 8-bit loads (40_load8.md R131 to R147), with LD r16,n16, LD SP,HL and LD (n16),SP (41_load16.md R161, R164,
R165). A load is one access, and register writes after it; since no access changes a register (R70, R71), the registers
written are those the instruction began with.
-/

namespace Sys2Proof.Machine

/-! ### A register write after an access -/

/-- A read, then `r8`. -/
theorem memRead_setR8 (a : Word) (s : State) (r : R8) (v : Byte) :
    (memRead a s).2.setR8 r v = (memRead a s).2.setRegs (s.regs.set8 r v) := by
  rw [setR8_eq, memRead_regs]

/-- A byte of memory into A (R135). -/
theorem loadA_spec (a : Word) (s : State) :
    loadA a s = (memRead a s).2.setRegs { s.regs with a := (memRead a s).1 } :=
  memRead_setR8 a s .a _

/-- A byte of memory into A, then HL (R141, R147): the two registers do not meet. -/
theorem loadA_setHl (a w : Word) (s : State) :
    (loadA a s).setHl w = (memRead a s).2.setRegs { s.regs.set16 .hl w with a := (memRead a s).1 } := by
  rw [loadA_spec]; rfl

/-- A store, then HL (R140, R146). -/
theorem memWrite_setHl (a w : Word) (v : Byte) (s : State) :
    (memWrite a v s).setHl w = (memWrite a v s).setRegs (s.regs.set16 .hl w) := by
  rw [setHl_eq, memWrite_regs]; rfl

/-! ### The loads -/

/-- Settles O20: each is one write of `r8`, of `r16` or of SP. -/
theorem registerLoadResults : Obligations.RegisterLoadResults := by
  unfold Obligations.RegisterLoadResults
  intro s
  refine ⟨fun dst q => ?r8r8, fun dst n => ?r8n8, fun p n => ?r16n16, ?spHL⟩
  case r8r8 => simp only [exec, execLdR8R8, setR8_eq, getR8_eq]
  case r8n8 => simp only [exec, execLdR8N8, setR8_eq]
  case r16n16 => simp only [exec, execLdR16N16, setR16_eq]
  case spHL => simp only [exec, execLdSPHL, setSp_eq, State.hl, getR16_eq]

/-- Settles O21: the loads of A are `loadA` at their address, LDI and LDD step HL after it, and LD r8,(HL) is a read and
a write of `r8`. -/
theorem memoryLoadResults : Obligations.MemoryLoadResults := by
  unfold Obligations.MemoryLoadResults
  intro loaded s
  have load (a : Word) : Host.Outcome.next (loadA a s) = (.next (loaded s a) : Result) :=
    congrArg _ (loadA_spec a s)
  refine ⟨load, load s.bc, load s.de, load (highPage s.regs.c), fun n => load (highPage n), fun dst => ?r8HL,
    ?ldi, ?ldd⟩
  case r8HL => exact congrArg Host.Outcome.next (memRead_setR8 s.hl s dst _)
  case ldi => exact congrArg Host.Outcome.next (loadA_setHl s.hl (s.hl + 1) s)
  case ldd => exact congrArg Host.Outcome.next (loadA_setHl s.hl (s.hl - 1) s)

/-- Settles O22: each store is `memWrite` at its address, LDI and LDD step HL after it, and LD (n16),SP is
`memWrite16`. -/
theorem storeResults : Obligations.StoreResults := by
  unfold Obligations.StoreResults
  intro s
  refine ⟨fun n => ?hlN8, fun q => ?hlR8, fun a => ?n16A, ?bcA, ?deA, ?cA, fun n => ?hN8A, ?ldi, ?ldd, fun a => ?n16SP⟩
  case hlN8 => simp only [exec, execLdHLN8, State.hl, getR16_eq]
  case hlR8 => simp only [exec, execLdHLR8, State.hl, getR16_eq, getR8_eq]
  case n16A => simp only [exec, execLdN16A]
  case bcA | deA => simp only [exec, execLdR16A, State.addrR16Mem, State.bc, State.de, getR16_eq]
  case cA => simp only [exec, execLdCA, highPage, zext16]
  case hN8A => simp only [exec, execLdhN8A, highPage, zext16]
  case ldi => simp only [exec, execLdiHLA, memWrite_setHl, State.hl, getR16_eq]
  case ldd => simp only [exec, execLddHLA, memWrite_setHl, State.hl, getR16_eq]
  case n16SP => simp only [exec, execLdN16SP, memWrite16]

end Sys2Proof.Machine
end

section
/-!
PROOFS. A word pushed and popped again (20_memory.md R74; 41_load16.md R170, R171). A pop of plain memory answers the two
bytes that `peek` shows at SP and changes no register but SP; after a push those bytes are the word's, and the pop puts
SP back where it was.
-/

namespace Sys2Proof.Machine

/-- A push changes no register but SP. -/
theorem push16_regs (v : Word) (s : State) : (push16 v s).regs = { s.regs with sp := s.regs.sp - 2 } := by
  rw [push16_spec, setRegs_regs]

/-- A pop of two bytes of plain memory. -/
theorem pop16_of_peek (s : State) (lo hi : Byte) (hlo : peek s s.regs.sp = some lo)
    (hhi : peek s (s.regs.sp + 1) = some hi) :
    pop16 s = (pair16 hi lo, s.setRegs { s.regs with sp := s.regs.sp + 2 }) := by
  rw [pop16_spec, memRead_of_peek _ _ _ hlo, memRead_of_peek _ _ _ hhi]

/-- Where the stack is RAM the CPU can reach, a pop undoes a push: the word comes back, and so does every register. -/
theorem pop16_push16_ram (v : Word) (s : State) (k j : Nat) (hk : place s (s.regs.sp - 2) = .ram k)
    (hj : place s (s.regs.sp - 2 + 1) = .ram j) (hda : dmaHides s (s.regs.sp - 2) = false)
    (hdb : dmaHides s (s.regs.sp - 2 + 1) = false) :
    pop16 (push16 v s) = (v, (push16 v s).setRegs s.regs) := by
  have hsp : s.regs.sp - 2 + 2 = s.regs.sp := by bv_omega
  have hlo : peek (push16 v s) (s.regs.sp - 2) = some (lo8 v) := by
    rw [peek_push16_ram v _ s k j hk hj hda hdb, if_pos rfl]
  have hhi : peek (push16 v s) (s.regs.sp - 2 + 1) = some (hi8 v) := by
    rw [peek_push16_ram v _ s k j hk hj hda hdb, if_neg (word_ne_add_one _).symm, if_pos rfl]
  rw [pop16_of_peek (push16 v s) (lo8 v) (hi8 v) (by rwa [push16_regs]) (by rwa [push16_regs]), pair16_hi8_lo8,
    push16_regs, hsp]

/-- POP after a push of `v`: the pair is `v`, and no other register is changed by the two. -/
theorem exec_popR16_push16_ram (q : R16Stk) (v : Word) (s : State) (k j : Nat) (hk : place s (s.regs.sp - 2) = .ram k)
    (hj : place s (s.regs.sp - 2 + 1) = .ram j) (hda : dmaHides s (s.regs.sp - 2) = false)
    (hdb : dmaHides s (s.regs.sp - 2 + 1) = false) :
    exec (.popR16 q) (push16 v s) = .next ((push16 v s).setRegs (s.regs.set16Stk q v)) := by
  simp only [exec, execPopR16, pop16_push16_ram v s k j hk hj hda hdb, setR16Stk_eq, setRegs_regs, setRegs_setRegs]

/-- Settles O26: the pop answers the pair pushed and puts SP back, and the push wrote only the two bytes below SP. -/
theorem pushThenPopCopiesPair : Obligations.PushThenPopCopiesPair := by
  unfold Obligations.PushThenPopCopiesPair
  intro s p q j k hj hk hdb hda
  have hsp : s.regs.sp - 1 = s.regs.sp - 2 + 1 := by bv_omega
  rw [hsp] at hj hdb ⊢
  refine ⟨push16 (s.regs.get16Stk p) s, _, rfl, exec_popR16_push16_ram q _ s k j hk hj hda hdb, rfl,
    fun b hhigh hlow => ?_⟩
  rw [peek_setRegs, peek_push16_ram _ b s k j hk hj hda hdb, if_neg hlow, if_neg hhigh]

end Sys2Proof.Machine
end

section
/-!
PROOFS. 8-bit arithmetic and logic (42_alu8.md R180 to R217). Each operation is one write of A and F, computed from the
register file and one byte; since a read changes no register (R70), the (HL) form is that operation on the byte read, in
the state after the read (R213).
-/

namespace Sys2Proof.Machine

/-! ### One write of the registers, for each kind of operand -/

theorem setAFlags_eq (d : Byte × Flags) (s : State) :
    setAFlags d s = s.setRegs { s.regs with a := d.1, f := d.2 } := rfl

/-- An operation that is one register write takes its second operand from HL: the read, then the same register write. -/
theorem withHL_eq {op : Byte → State → State} {g : Regs → Byte → Regs} (h : ∀ v t, op v t = t.setRegs (g t.regs v))
    (s : State) : withHL op s = (memRead s.hl s).2.setRegs (g s.regs (memRead s.hl s).1) := by
  simp only [withHL, h, memRead_regs]

theorem modifyR8_eq (q : R8) (op : Byte → Flags → Byte × Flags) (s : State) :
    modifyR8 q op s = s.setRegs
      { s.regs.set8 q (op (s.regs.get8 q) s.regs.f).1 with f := (op (s.regs.get8 q) s.regs.f).2 } := rfl

/-- A read-modify-write at HL: the read, the write back, then the flags. -/
theorem modifyHL_eq (op : Byte → Flags → Byte × Flags) (s : State) :
    modifyHL op s = (memWrite s.hl (op (memRead s.hl s).1 s.regs.f).1 (memRead s.hl s).2).setRegs
      { s.regs with f := (op (memRead s.hl s).1 s.regs.f).2 } := by
  simp only [modifyHL, setFlags_eq, memWrite_regs, memRead_regs]

/-! ### The flag computations in arithmetic (R194, R214, R215, R217) -/

theorem toNat_low_nibble (v : Byte) : (v &&& 0x0F).toNat = v.toNat % 16 := by
  rw [BitVec.toNat_and]
  exact Nat.and_two_pow_sub_one_eq_mod v.toNat 4

theorem low_nibble_eq_iff (v d : Byte) : v &&& 0x0F = d ↔ v.toNat % 16 = d.toNat := by
  rw [← toNat_low_nibble, BitVec.toNat_inj]

theorem ofNat_add_carry (a v : Byte) (cin : Bool) :
    BitVec.ofNat 8 (a.toNat + v.toNat + cin.toNat) = a + v + (if cin then 1 else 0) := by
  cases cin <;> apply BitVec.eq_of_toNat_eq <;> simp [Nat.add_mod]

theorem ofInt_sub_borrow (a v : Byte) (cin : Bool) :
    BitVec.ofInt 8 (a.toNat - v.toNat - cin.toNat) = a - v - (if cin then 1 else 0) := by
  apply BitVec.eq_of_toNat_eq
  cases cin <;> simp [BitVec.toNat_ofInt, BitVec.toNat_sub] <;> omega

/-- A and F after an addition (R214). -/
def sumRegs (g : Regs) (v : Byte) (cin : Bool) : Regs :=
  { g with
    a := g.a + v + (if cin then 1 else 0)
    f := { z := decide (g.a + v + (if cin then 1 else 0) = 0)
           n := false
           h := decide (g.a.toNat % 16 + v.toNat % 16 + cin.toNat > 15)
           c := decide (g.a.toNat + v.toNat + cin.toNat > 255) } }

theorem setAFlags_add8 (v : Byte) (cin : Bool) (s : State) :
    setAFlags (add8 s.regs.a v cin) s = s.setRegs (sumRegs s.regs v cin) := by
  simp only [setAFlags_eq, add8, sumRegs, ofNat_add_carry, toNat_low_nibble, beq_eq_decide]

/-- The flags of a difference (R215). -/
def diffFlags (g : Regs) (v : Byte) (cin : Bool) : Flags :=
  { z := decide (g.a - v - (if cin then 1 else 0) = 0)
    n := true
    h := decide (g.a.toNat % 16 < v.toNat % 16 + cin.toNat)
    c := decide (g.a.toNat < v.toNat + cin.toNat) }

/-- A and F after a subtraction (R215). -/
def diffRegs (g : Regs) (v : Byte) (cin : Bool) : Regs :=
  { g with a := g.a - v - (if cin then 1 else 0), f := diffFlags g v cin }

theorem sub8_eq (g : Regs) (v : Byte) (cin : Bool) :
    sub8 g.a v cin = (g.a - v - (if cin then 1 else 0), diffFlags g v cin) := by
  simp only [sub8, diffFlags, ofInt_sub_borrow, toNat_low_nibble, beq_eq_decide]

theorem setAFlags_sub8 (v : Byte) (cin : Bool) (s : State) :
    setAFlags (sub8 s.regs.a v cin) s = s.setRegs (diffRegs s.regs v cin) := by
  rw [sub8_eq, setAFlags_eq]; rfl

/-- A and F after a logic operation with result `r` (R216). -/
def logicRegs (g : Regs) (r : Byte) (h : Bool) : Regs :=
  { g with a := r, f := { z := decide (r = 0), n := false, h := h, c := false } }

theorem setAFlags_logicFlags (r : Byte) (h : Bool) (s : State) :
    setAFlags (r, logicFlags r h) s = s.setRegs (logicRegs s.regs r h) := by
  simp only [setAFlags_eq, logicFlags, logicRegs, beq_eq_decide]

theorem inc8_eq (v : Byte) (f : Flags) :
    inc8 v f = (v + 1, { z := decide (v = 0xFF), n := false, h := decide (v.toNat % 16 = 15), c := f.c }) := by
  have hz : v + 1 = 0 ↔ v = 0xFF := by bv_omega
  simp only [inc8, beq_eq_decide, low_nibble_eq_iff, hz]
  rfl

theorem dec8_eq (v : Byte) (f : Flags) :
    dec8 v f = (v - 1, { z := decide (v = 0x01), n := true, h := decide (v.toNat % 16 = 0), c := f.c }) := by
  have hz : v - 1 = 0 ↔ v = 0x01 := by bv_omega
  simp only [dec8, beq_eq_decide, low_nibble_eq_iff, hz]
  rfl

/-! ### The operations on A -/

theorem addA_eq (v : Byte) (s : State) : addA v s = s.setRegs (sumRegs s.regs v false) := setAFlags_add8 v false s

theorem adcA_eq (v : Byte) (s : State) : adcA v s = s.setRegs (sumRegs s.regs v s.regs.f.c) :=
  setAFlags_add8 v s.regs.f.c s

theorem subA_eq (v : Byte) (s : State) : subA v s = s.setRegs (diffRegs s.regs v false) := setAFlags_sub8 v false s

theorem sbcA_eq (v : Byte) (s : State) : sbcA v s = s.setRegs (diffRegs s.regs v s.regs.f.c) :=
  setAFlags_sub8 v s.regs.f.c s

theorem cpA_eq (v : Byte) (s : State) : cpA v s = s.setRegs { s.regs with f := diffFlags s.regs v false } := by
  rw [cpA, sub8_eq, setFlags_eq]

theorem andA_eq (v : Byte) (s : State) : andA v s = s.setRegs (logicRegs s.regs (s.regs.a &&& v) true) :=
  setAFlags_logicFlags _ true s

theorem orA_eq (v : Byte) (s : State) : orA v s = s.setRegs (logicRegs s.regs (s.regs.a ||| v) false) :=
  setAFlags_logicFlags _ false s

theorem xorA_eq (v : Byte) (s : State) : xorA v s = s.setRegs (logicRegs s.regs (s.regs.a ^^^ v) false) :=
  setAFlags_logicFlags _ false s

/-- An instruction of three forms, each the same register write `g` of the byte that the form names. -/
theorem forms_of_setRegs {op : Byte → State → State} {g : Regs → Byte → Regs}
    (h : ∀ v t, op v t = t.setRegs (g t.regs v)) (s : State) :
    (∀ n : Byte, (.next (op n s) : Result) = .next (s.setRegs (g s.regs n))) ∧
    (∀ q : R8, (.next (op (s.getR8 q) s) : Result) = .next (s.setRegs (g s.regs (s.regs.get8 q)))) ∧
    (.next (withHL op s) : Result) = .next ((memRead s.hl s).2.setRegs (g s.regs (memRead s.hl s).1)) :=
  ⟨fun n => congrArg _ (h n s), fun q => congrArg _ (h (s.getR8 q) s), congrArg _ (withHL_eq h s)⟩

/-! ### The results -/

/-- Settles O5: every form writes `sumRegs` of its operand, with carry in 0 for ADD and C for ADC. -/
theorem addAndAdcResults : Obligations.AddAndAdcResults := by
  unfold Obligations.AddAndAdcResults
  intro after s
  obtain ⟨addN, addR, addHL⟩ := forms_of_setRegs (g := fun g v => sumRegs g v false) addA_eq s
  obtain ⟨adcN, adcR, adcHL⟩ := forms_of_setRegs (g := fun g v => sumRegs g v g.f.c) adcA_eq s
  exact ⟨addN, addR, addHL, adcN, adcR, adcHL⟩

/-- Settles O6: SUB and SBC write `diffRegs` of their operand, CP writes only its flags. -/
theorem subSbcAndCpResults : Obligations.SubSbcAndCpResults := by
  unfold Obligations.SubSbcAndCpResults
  intro diff flags after s
  obtain ⟨subN, subR, subHL⟩ := forms_of_setRegs (g := fun g v => diffRegs g v false) subA_eq s
  obtain ⟨sbcN, sbcR, sbcHL⟩ := forms_of_setRegs (g := fun g v => diffRegs g v g.f.c) sbcA_eq s
  obtain ⟨cpN, cpR, cpHL⟩ := forms_of_setRegs (g := fun g v => { g with f := diffFlags g v false }) cpA_eq s
  exact ⟨subN, subR, subHL, sbcN, sbcR, sbcHL, cpN, cpR, cpHL⟩

/-- Settles O8: every form writes `logicRegs` of A and its operand combined bit by bit. -/
theorem logicResults : Obligations.LogicResults := by
  unfold Obligations.LogicResults
  intro after s
  obtain ⟨andN, andR, andHL⟩ := forms_of_setRegs (g := fun g v => logicRegs g (g.a &&& v) true) andA_eq s
  obtain ⟨orN, orR, orHL⟩ := forms_of_setRegs (g := fun g v => logicRegs g (g.a ||| v) false) orA_eq s
  obtain ⟨xorN, xorR, xorHL⟩ := forms_of_setRegs (g := fun g v => logicRegs g (g.a ^^^ v) false) xorA_eq s
  exact ⟨andN, andR, andHL, orN, orR, orHL, xorN, xorR, xorHL⟩

/-- Settles O9: each form is one read-modify-write with `inc8` or `dec8`. -/
theorem incAndDecResults : Obligations.IncAndDecResults := by
  unfold Obligations.IncAndDecResults
  intro incF decF s
  refine ⟨fun q => ?incR8, fun q => ?decR8, ?incHL, ?decHL⟩
  case incR8 => simp only [exec, execIncR8, modifyR8_eq, inc8_eq, incF]
  case decR8 => simp only [exec, execDecR8, modifyR8_eq, dec8_eq, decF]
  case incHL => simp only [exec, execIncHL, modifyHL_eq, inc8_eq, incF]
  case decHL => simp only [exec, execDecHL, modifyHL_eq, dec8_eq, decF]

/-- Settles O10: CCF and SCF are one write of F; CPL writes A as well, and an exclusive or with $FF is the
complement. -/
theorem carryAndComplementResults : Obligations.CarryAndComplementResults := by
  unfold Obligations.CarryAndComplementResults
  intro s
  have hcpl : s.regs.a ^^^ 0xFF = ~~~s.regs.a := BitVec.xor_allOnes
  refine ⟨?ccf, ?scf, ?cpl⟩
  case ccf => simp only [exec, execCcf, setFlags_eq]
  case scf => simp only [exec, execScf, setFlags_eq]
  case cpl => simp only [exec, execCpl, setA_eq, setFlags_eq, setRegs_setRegs, setRegs_regs, hcpl]

/-! ### DAA (R194) -/

/-- The adjustment of the low digit. -/
def daaLow (a : Byte) (f : Flags) : Byte := if f.h = true ∨ (f.n = false ∧ a.toNat % 16 > 9) then 0x06 else 0

/-- The adjustment of the high digit. -/
def daaHigh (a : Byte) (f : Flags) : Byte := if f.c = true ∨ (f.n = false ∧ a.toNat > 0x99) then 0x60 else 0

/-- A after DAA. -/
def daaA (a : Byte) (f : Flags) : Byte :=
  if f.n = true then a - (daaLow a f + daaHigh a f) else a + (daaLow a f + daaHigh a f)

/-- The flags after DAA. -/
def daaFlags (a : Byte) (f : Flags) : Flags :=
  { z := decide (daaA a f = 0), n := f.n, h := false, c := decide (daaHigh a f = 0x60) }

/-- The two adjustments have no bit in common. -/
theorem daaLow_or_daaHigh (a : Byte) (f : Flags) : daaLow a f ||| daaHigh a f = daaLow a f + daaHigh a f := by
  unfold daaLow daaHigh
  split <;> split <;> rfl

theorem daaHigh_eq_iff (a : Byte) (f : Flags) :
    daaHigh a f = 0x60 ↔ f.c = true ∨ (f.n = false ∧ a.toNat > 0x99) := by
  unfold daaHigh
  split <;> simp_all

theorem daa8_eq (a : Byte) (f : Flags) : daa8 a f = (daaA a f, daaFlags a f) := by
  have hlow : (if f.h || (!f.n && decide (a.toNat % 16 > 9)) then (0x06 : Byte) else 0x00) = daaLow a f := by
    simp [daaLow]
  have hhigh : (if f.c || (!f.n && decide (a.toNat > 0x99)) then (0x60 : Byte) else 0x00) = daaHigh a f := by
    simp [daaHigh]
  have hc : (f.c || (!f.n && decide (a.toNat > 0x99))) = decide (daaHigh a f = 0x60) := by
    simp only [daaHigh_eq_iff, Bool.decide_or, Bool.decide_and, Bool.decide_eq_true, Bool.decide_eq_false]
  simp only [daa8, toNat_low_nibble, hlow, hhigh, daaLow_or_daaHigh, beq_eq_decide]
  rw [hc]
  rfl

theorem exec_daa (s : State) :
    exec .daa s = .next (s.setRegs { s.regs with a := daaA s.regs.a s.regs.f, f := daaFlags s.regs.a s.regs.f }) := by
  simp only [exec, execDaa, daa8_eq, setAFlags_eq]

/-- Settles O11: the adjustments of the statement are `daaLow` and `daaHigh`. -/
theorem daaResult : Obligations.DaaResult := by
  unfold Obligations.DaaResult
  exact exec_daa

/-! ### Packed decimals -/

/-- Adding two packed decimals as binary numbers: each digit that carries needs the 6 by which its base 16 passes 10. -/
theorem packed_sum (x1 x0 y1 y0 : Nat) (hx1 : x1 < 10) (hx0 : x0 < 10) (hy1 : y1 < 10) (hy0 : y0 < 10) :
    (16 * x1 + x0 + (16 * y1 + y0) +
        ((if x0 + y0 ≥ 10 then 6 else 0) + if 10 * x1 + x0 + (10 * y1 + y0) ≥ 100 then 0x60 else 0)) % 256 =
      16 * ((10 * x1 + x0 + (10 * y1 + y0)) % 100 / 10) + (10 * x1 + x0 + (10 * y1 + y0)) % 10 := by
  have hlow : (10 * x1 + x0 + (10 * y1 + y0)) % 10 = x0 + y0 - if x0 + y0 ≥ 10 then 10 else 0 := by
    split <;> omega
  have hhigh : (10 * x1 + x0 + (10 * y1 + y0)) % 100 / 10 =
      x1 + y1 + (if x0 + y0 ≥ 10 then 1 else 0) - if 10 * x1 + x0 + (10 * y1 + y0) ≥ 100 then 10 else 0 := by
    split <;> split <;> omega
  rw [hlow, hhigh]
  split <;> split <;> omega

section
variable (g : Regs) (v : Byte) (x1 x0 y1 y0 : Fin 10)

/-- After an addition the low digit is adjusted when the digits add up to 10 or more: then they carry out of bit 3, or
leave more than 9. -/
theorem daaLow_of_sum (ha : g.a.toNat = 16 * x1.val + x0.val) (hv : v.toNat = 16 * y1.val + y0.val) :
    daaLow (sumRegs g v false).a (sumRegs g v false).f = if x0.val + y0.val ≥ 10 then 0x06 else 0 := by
  refine if_congr ?_ rfl rfl
  simp [sumRegs, BitVec.toNat_add, ha, hv]
  omega

/-- After an addition the high digit is adjusted when the decimal sum is 100 or more: then the bytes carry out of bit 7,
or leave more than $99. -/
theorem daaHigh_of_sum (ha : g.a.toNat = 16 * x1.val + x0.val) (hv : v.toNat = 16 * y1.val + y0.val) :
    daaHigh (sumRegs g v false).a (sumRegs g v false).f =
      if 10 * x1.val + x0.val + (10 * y1.val + y0.val) ≥ 100 then 0x60 else 0 := by
  refine if_congr ?_ rfl rfl
  simp [sumRegs, BitVec.toNat_add, ha, hv]
  omega

/-- After an addition of two packed decimals, DAA leaves the packed decimal of the sum modulo 100. -/
theorem daaA_of_sum (ha : g.a.toNat = 16 * x1.val + x0.val) (hv : v.toNat = 16 * y1.val + y0.val) :
    (daaA (sumRegs g v false).a (sumRegs g v false).f).toNat =
      16 * ((10 * x1.val + x0.val + (10 * y1.val + y0.val)) % 100 / 10) +
        (10 * x1.val + x0.val + (10 * y1.val + y0.val)) % 10 := by
  have hn : (sumRegs g v false).f.n = false := rfl
  have hr : (sumRegs g v false).a = g.a + v := BitVec.add_zero _
  rw [daaA, hn, if_neg Bool.false_ne_true, daaLow_of_sum g v x1 x0 y1 y0 ha hv,
    daaHigh_of_sum g v x1 x0 y1 y0 ha hv, hr, ← packed_sum x1 x0 y1 y0 x1.isLt x0.isLt y1.isLt y0.isLt]
  simp only [BitVec.toNat_add, ha, hv]
  split <;> split <;> simp

end

theorem toNat_packed (d1 d0 : Fin 10) :
    (BitVec.ofNat 8 (16 * d1.val + d0.val)).toNat = 16 * d1.val + d0.val := by
  rw [BitVec.toNat_ofNat, Nat.mod_eq_of_lt (by omega)]

/-- Settles O12: ADD writes `sumRegs`, DAA adjusts it, and C says that the high digit was adjusted. -/
theorem daaAfterDecimalAdd : Obligations.DaaAfterDecimalAdd := by
  unfold Obligations.DaaAfterDecimalAdd
  intro s x1 x0 y1 y0 hs
  have hx : s.regs.a.toNat = 16 * x1.val + x0.val := by rw [hs, toNat_packed]
  have hy := toNat_packed y1 y0
  refine ⟨_, _, congrArg Host.Outcome.next (addA_eq _ s), exec_daa _, ?result, ?carry⟩
  case result =>
    apply BitVec.eq_of_toNat_eq
    rw [setRegs_regs, setRegs_regs, daaA_of_sum s.regs _ x1 x0 y1 y0 hx hy, BitVec.toNat_ofNat]
    omega
  case carry =>
    rw [setRegs_regs, setRegs_regs, daaFlags, decide_eq_true_iff, daaHigh_of_sum s.regs _ x1 x0 y1 y0 hx hy]
    split <;> simp_all

end Sys2Proof.Machine
end

section
/-!
PROOFS. 16-bit arithmetic (43_alu16.md R241 to R244), with LD HL,SP+e8 (41_load16.md R163), which computes what ADD SP,e8
does. Each instruction is one write of a pair, and of F where the rule names flags; the flags are those of `addHl16` and
`addSp8`, whose masked operands are remainders.
-/

namespace Sys2Proof.Machine

/-! ### The flag computations in arithmetic (R241, R242) -/

/-- The lowest `n` bits of a word, masked out, are its remainder. -/
theorem toNat_and_mask (v m : Word) (n : Nat) (hm : m.toNat = 2 ^ n - 1) : (v &&& m).toNat = v.toNat % 2 ^ n := by
  rw [BitVec.toNat_and, hm, Nat.and_two_pow_sub_one_eq_mod]

theorem toNat_zext16 (e : Byte) : (zext16 e).toNat = e.toNat :=
  BitVec.toNat_setWidth_of_le (by decide)

/-- The flags of ADD HL,r16 (R241). -/
def addHlFlags (zFromSource : Bool) (a b : Word) (f : Flags) : Flags :=
  { z := if zFromSource then decide (a + b = 0) else f.z
    n := false
    h := decide (a.toNat % 4096 + b.toNat % 4096 > 4095)
    c := decide (a.toNat + b.toNat > 65535) }

theorem addHl16_eq (zFromSource : Bool) (a b : Word) (f : Flags) :
    addHl16 zFromSource a b f = (a + b, addHlFlags zFromSource a b f) := by
  have hsum : BitVec.ofNat 16 (a.toNat + b.toNat) = a + b := by simp [BitVec.ofNat_add]
  have hmask (v : Word) : (v &&& 0x0FFF).toNat = v.toNat % 4096 := toNat_and_mask v _ 12 rfl
  simp only [addHl16, addHlFlags, hsum, hmask, beq_eq_decide]

/-- The flags of SP + e8: the byte counts as unsigned, whatever its sign in the sum (R242). -/
def addSpFlags (sp : Word) (e : Byte) : Flags :=
  { z := false
    n := false
    h := decide (sp.toNat % 16 + e.toNat % 16 > 15)
    c := decide (sp.toNat % 256 + e.toNat > 255) }

theorem addSp8_eq (sp : Word) (e : Byte) : addSp8 sp e = (sp + e.signExtend 16, addSpFlags sp e) := by
  have hnibble (v : Word) : (v &&& 0x000F).toNat = v.toNat % 16 := toNat_and_mask v _ 4 rfl
  have hbyte : (sp &&& 0x00FF).toNat = sp.toNat % 256 := toNat_and_mask sp _ 8 rfl
  simp only [addSp8, addSpFlags, hnibble, hbyte, toNat_zext16, sext16]

/-! ### A register write, then the flags -/

/-- HL, then F: the two writes do not meet. -/
theorem setHl_setFlags (s : State) (v : Word) (f : Flags) :
    (s.setHl v).setFlags f = s.setRegs { s.regs.set16 .hl v with f := f } := rfl

/-- SP, then F: the two writes do not meet. -/
theorem setSp_setFlags (s : State) (v : Word) (f : Flags) :
    (s.setSp v).setFlags f = s.setRegs { s.regs with sp := v, f := f } := rfl

/-! ### The results -/

theorem exec_addHLR16 (s : State) (p : R16) :
    exec (.addHLR16 p) s = .next (s.setRegs
      { s.regs.set16 .hl (s.regs.get16 .hl + s.regs.get16 p) with
        f := addHlFlags s.cfg.addhlZFromSource (s.regs.get16 .hl) (s.regs.get16 p) s.regs.f }) := by
  simp only [exec, execAddHLR16, addHl16_eq, setHl_setFlags, State.hl, getR16_eq]

theorem exec_addSPE8 (s : State) (e : Byte) :
    exec (.addSPE8 e) s = .next (s.setRegs
      { s.regs with sp := s.regs.sp + e.signExtend 16, f := addSpFlags s.regs.sp e }) := by
  simp only [exec, execAddSPE8, addSp8_eq, setSp_setFlags]

theorem exec_ldHLSPE8 (s : State) (e : Byte) :
    exec (.ldHLSPE8 e) s = .next (s.setRegs
      { s.regs.set16 .hl (s.regs.sp + e.signExtend 16) with f := addSpFlags s.regs.sp e }) := by
  simp only [exec, execLdHLSPE8, addSp8_eq, setHl_setFlags]

/-- Settles O13: one write of HL and F, with the flags of the statement as `addHlFlags`. -/
theorem addHlResult : Obligations.AddHlResult := by
  unfold Obligations.AddHlResult
  exact exec_addHLR16

/-- Settles O14: the two instructions write the same sum and flags, one to SP and one to HL. -/
theorem stackPointerSumResults : Obligations.StackPointerSumResults := by
  unfold Obligations.StackPointerSumResults
  exact fun s e => ⟨exec_addSPE8 s e, exec_ldHLSPE8 s e⟩

/-- Settles O15: each is one write of the pair, and F is not written. -/
theorem incAndDec16Results : Obligations.IncAndDec16Results := by
  unfold Obligations.IncAndDec16Results
  intro s p
  refine ⟨?inc, ?dec⟩
  case inc => simp only [exec, execIncR16, setR16_eq, getR16_eq]
  case dec => simp only [exec, execDecR16, setR16_eq, getR16_eq]

end Sys2Proof.Machine
end

section
/-!
PROOFS. Rotates, shifts, SWAP and the single-bit instructions (44_rotate_shift_bit.md R260 to R286). Every form is
`rot`, `bitFlags`, `resBit` or `setBit` on one byte, put back where the byte came from. The facts about bytes come
first: what the model spells with shifts and masks is a rotation, a sum or a quotient.
-/

namespace Sys2Proof.Machine

/-! ### The single bits that are shifted in -/

theorem getElem_bit0 (c : Bool) (i : Nat) (hi : i < 8) : (bit0 c)[i] = (decide (i = 0) && c) := by
  cases c <;> simp [bit0]

theorem getElem_signMask (i : Nat) (hi : i < 8) : (0x80#8)[i] = decide (i = 7) := BitVec.getElem_twoPow (i := 7) hi

theorem getElem_bit7 (c : Bool) (i : Nat) (hi : i < 8) : (bit7 c)[i] = (decide (i = 7) && c) := by
  cases c <;> simp [bit7, getElem_signMask]

/-- The bit that a rotation to the left moves out, as the byte it moves into. -/
theorem bit0_getLsbD_seven (v : Byte) : bit0 (v.getLsbD 7) = v >>> 7 := by
  ext i hi
  rw [getElem_bit0, BitVec.getElem_ushiftRight]
  obtain rfl | hpos := Nat.eq_zero_or_pos i
  · simp
  · simp [hpos.ne', BitVec.getLsbD_of_ge v (7 + i) (by omega)]

/-- The bit that a rotation to the right moves out, as the byte it moves into. -/
theorem bit7_getLsbD_zero (v : Byte) : bit7 (v.getLsbD 0) = v <<< 7 := by
  ext i hi
  rw [getElem_bit7, BitVec.getElem_shiftLeft]
  obtain hlow | rfl : i < 7 ∨ i = 7 := by omega
  · simp [hlow, hlow.ne]
  · simp

theorem and_signMask (v : Byte) : v &&& 0x80#8 = bit7 v.msb := by
  ext i hi
  rw [BitVec.getElem_and, getElem_signMask, getElem_bit7]
  obtain hlow | rfl : i < 7 ∨ i = 7 := by omega
  · simp [hlow.ne]
  · simp [BitVec.msb_eq_getLsbD_last]

/-! ### The rows of R260 as arithmetic -/

theorem shiftLeft_one_eq_add_self (v : Byte) : v <<< 1 = v + v := by
  rw [BitVec.shiftLeft_eq_mul_twoPow, BitVec.mul_comm]
  exact BitVec.two_mul

theorem shiftRight_one_eq_ofNat (v : Byte) : v >>> 1 = BitVec.ofNat 8 (v.toNat / 2) := by
  rw [← Nat.shiftRight_one, ← BitVec.toNat_ushiftRight, BitVec.ofNat_toNat, BitVec.setWidth_eq]

/-- RL (R260): the shift leaves bit 0 clear, so the carry is added there. -/
theorem shiftLeft_one_or_bit0 (v : Byte) (c : Bool) : (v <<< 1) ||| bit0 c = v + v + (if c then 1 else 0) := by
  have hdisjoint : (v <<< 1) &&& bit0 c = 0 := by
    ext i hi
    cases i <;> simp [getElem_bit0]
  rw [← BitVec.add_eq_or_of_and_eq_zero _ _ hdisjoint, shiftLeft_one_eq_add_self]
  rfl

/-- RR (R260): the shift leaves bit 7 clear, so the carry is added there. -/
theorem shiftRight_one_or_bit7 (v : Byte) (c : Bool) :
    (v >>> 1) ||| bit7 c = BitVec.ofNat 8 (v.toNat / 2 + 128 * c.toNat) := by
  have hdisjoint : (v >>> 1) &&& bit7 c = 0 := by
    ext i hi
    obtain hlow | rfl : i < 7 ∨ i = 7 := by omega
    · simp [getElem_bit7, hlow.ne]
    · simp
  have hbit : bit7 c = BitVec.ofNat 8 (128 * c.toNat) := by cases c <;> rfl
  rw [← BitVec.add_eq_or_of_and_eq_zero _ _ hdisjoint, shiftRight_one_eq_ofNat, hbit, BitVec.ofNat_add]

/-- RLC (R260). -/
theorem shiftLeft_one_or_bit0_self (v : Byte) : (v <<< 1) ||| bit0 (v.getLsbD 7) = v.rotateLeft 1 := by
  rw [bit0_getLsbD_seven, BitVec.rotateLeft_def]

/-- RRC (R260). -/
theorem shiftRight_one_or_bit7_self (v : Byte) : (v >>> 1) ||| bit7 (v.getLsbD 0) = v.rotateRight 1 := by
  rw [bit7_getLsbD_zero, BitVec.rotateRight_def]

/-- SRA (R260): the bit shifted in is the sign. -/
theorem shiftRight_one_or_sign (v : Byte) : (v >>> 1) ||| (v &&& 0x80#8) = v.sshiftRight 1 := by
  ext i hi
  rw [and_signMask, BitVec.getElem_or, BitVec.getElem_ushiftRight, getElem_bit7, BitVec.getElem_sshiftRight]
  obtain hlow | rfl : i < 7 ∨ i = 7 := by omega
  · simp [hlow.ne, show 1 + i < 8 by omega]
  · simp

/-- SWAP (R260). -/
theorem swap_nibbles (v : Byte) : (v <<< 4) ||| (v >>> 4) = v.rotateLeft 4 := by rw [BitVec.rotateLeft_def]

/-- The result and the carry out of each operation, as its row of R260 pictures it. -/
def rotated (op : RotOp) (v : Byte) (cin : Bool) : Byte × Bool :=
  match op with
  | .rlc => (v.rotateLeft 1, v.getLsbD 7)
  | .rrc => (v.rotateRight 1, v.getLsbD 0)
  | .rl => (v + v + (if cin then 1 else 0), v.getLsbD 7)
  | .rr => (BitVec.ofNat 8 (v.toNat / 2 + 128 * cin.toNat), v.getLsbD 0)
  | .sla => (v + v, v.getLsbD 7)
  | .sra => (v.sshiftRight 1, v.getLsbD 0)
  | .srl => (BitVec.ofNat 8 (v.toNat / 2), v.getLsbD 0)
  | .swap => (v.rotateLeft 4, false)

theorem rot_eq_rotated (op : RotOp) (v : Byte) (cin : Bool) : rot op v cin = rotated op v cin := by
  cases op with
  | rlc => exact congrArg (·, _) (shiftLeft_one_or_bit0_self v)
  | rrc => exact congrArg (·, _) (shiftRight_one_or_bit7_self v)
  | rl => exact congrArg (·, _) (shiftLeft_one_or_bit0 v cin)
  | rr => exact congrArg (·, _) (shiftRight_one_or_bit7 v cin)
  | sla => exact congrArg (·, _) (shiftLeft_one_eq_add_self v)
  | sra => exact congrArg (·, _) (shiftRight_one_or_sign v)
  | srl => exact congrArg (·, _) (shiftRight_one_eq_ofNat v)
  | swap => exact congrArg (·, _) (swap_nibbles v)

/-! ### The flags (R260 to R264) -/

/-- The flags of a $CB-page rotate or shift (R260). -/
def rotatedFlags (d : Byte × Bool) : Flags := { z := decide (d.1 = 0), n := false, h := false, c := d.2 }

theorem rotFlagged_eq (op : RotOp) (v : Byte) (f : Flags) :
    rotFlagged op v f = ((rotated op v f.c).1, rotatedFlags (rotated op v f.c)) := by
  simp only [rotFlagged, rot_eq_rotated, rotatedFlags, beq_eq_decide]

/-- A and F after RLCA, RRCA, RLA or RRA, whose result and carry out are `d` (R261 to R264). -/
def rotatedARegs (zFromSource : Bool) (g : Regs) (d : Byte × Bool) : Regs :=
  { g with a := d.1, f := { z := zFromSource && decide (d.1 = 0), n := false, h := false, c := d.2 } }

theorem rotateA_eq (op : RotOp) (s : State) :
    rotateA op s = s.setRegs (rotatedARegs s.cfg.rotaZFromSource s.regs (rotated op s.regs.a s.regs.f.c)) := by
  simp only [rotateA, setAFlags_eq, rotAFlagged, rot_eq_rotated, rotatedARegs, beq_eq_decide]

/-! ### RES and SET (R283, R285) -/

theorem getLsbD_one_shiftLeft (b : BitVec 3) (i : Nat) :
    ((1 : Byte) <<< b.toNat).getLsbD i = decide (i = b.toNat) := by
  have hb : b.toNat < 8 := b.isLt
  calc ((1 : Byte) <<< b.toNat).getLsbD i
    _ = (BitVec.twoPow 8 b.toNat).getLsbD i := by rw [BitVec.twoPow_eq]; rfl
    _ = decide (i = b.toNat) := by simp [BitVec.getLsbD_twoPow, hb, eq_comm]

theorem getLsbD_resBit (b : BitVec 3) (v : Byte) (i : Nat) (hi : i < 8) :
    (resBit b v).getLsbD i = (v.getLsbD i && decide (i ≠ b.toNat)) := by
  rw [resBit, BitVec.getLsbD_and, BitVec.getLsbD_not, getLsbD_one_shiftLeft, decide_not, decide_eq_true hi,
    Bool.true_and]

theorem getLsbD_setBit (b : BitVec 3) (v : Byte) (i : Nat) :
    (setBit b v).getLsbD i = (v.getLsbD i || decide (i = b.toNat)) := by
  rw [setBit, BitVec.getLsbD_or, getLsbD_one_shiftLeft]

/-! ### The results -/

/-- Settles O16: each form is one read-modify-write with `rotFlagged`, of a register or at HL. -/
theorem rotateAndShiftResults : Obligations.RotateAndShiftResults := by
  unfold Obligations.RotateAndShiftResults
  intro res flags onR onHL s q
  have hR (op : RotOp) : (.next (modifyR8 q (rotFlagged op) s) : Result) = .next (s.setRegs (onR s op q)) := by
    rw [modifyR8_eq, rotFlagged_eq]; rfl
  have hHL (op : RotOp) : (.next (modifyHL (rotFlagged op) s) : Result) = .next (onHL s op) := by
    rw [modifyHL_eq, rotFlagged_eq]; rfl
  exact ⟨hR .rlc, hHL .rlc, hR .rrc, hHL .rrc, hR .rl, hHL .rl, hR .rr, hHL .rr,
    hR .sla, hHL .sla, hR .sra, hHL .sra, hR .srl, hHL .srl, hR .swap, hHL .swap⟩

/-- Settles O17: each is one write of A and F, with the row of R260 of the same name. -/
theorem accumulatorRotateResults : Obligations.AccumulatorRotateResults := by
  unfold Obligations.AccumulatorRotateResults
  intro s a after
  have hA (op : RotOp) : (.next (rotateA op s) : Result) =
      .next (s.setRegs (after (rotated op a s.regs.f.c).1 (rotated op a s.regs.f.c).2)) :=
    congrArg _ (rotateA_eq op s)
  exact ⟨hA .rlc, hA .rrc, hA .rl, hA .rr⟩

/-- Settles O18: one write of F, after the read in the (HL) form, which changes no register (R70). -/
theorem bitTestResults : Obligations.BitTestResults := by
  unfold Obligations.BitTestResults
  intro flags s b
  refine ⟨fun q => ?bitR8, ?bitHL⟩
  case bitR8 => simp only [exec, execBitR8, setFlags_eq, getR8_eq, bitFlags, flags]
  case bitHL => simp only [exec, execBitHL, setFlags_eq, memRead_regs, bitFlags, flags]

/-- Settles O19: the two byte functions are `resBit` and `setBit`, and each form writes back what they answer. -/
theorem resAndSetResults : Obligations.ResAndSetResults := by
  unfold Obligations.ResAndSetResults
  intro s b
  refine ⟨resBit b, setBit b, getLsbD_resBit b, fun v i _ => getLsbD_setBit b v i,
    fun q => ?resR8, fun q => ?setR8, ?resHL, ?setHL⟩
  case resR8 => simp only [exec, execResR8, setR8_eq, getR8_eq]
  case setR8 => simp only [exec, execSetR8, setR8_eq, getR8_eq]
  case resHL => simp only [exec, execResHL]
  case setHL => simp only [exec, execSetHL]

end Sys2Proof.Machine
end

section
/-!
PROOFS. Control flow (45_control.md R310 to R320, R326 to R328). A jump is one write of pc; a call is a push of pc and a
jump, a return a pop of pc. Writing pc and popping do not meet, so a return after a call is a pop after a push, which
gives back the word and every register. After CP the conditions of the jumps order A against the operand.
-/

namespace Sys2Proof.Machine

/-! ### Compares (R215, R328) -/

/-- Without a borrow in, Z and C of the difference order A against the byte, unsigned. -/
theorem diffFlags_orders (g : Regs) (v : Byte) :
    ((diffFlags g v false).z = true ↔ g.a.toNat = v.toNat) ∧
    ((diffFlags g v false).c = true ↔ g.a.toNat < v.toNat) := by
  constructor
  · have hz : g.a - v - 0 = 0 ↔ g.a.toNat = v.toNat := by bv_omega
    simpa [diffFlags] using hz
  · simp [diffFlags]

/-- Settles O7: every form of CP writes `diffFlags` of A and its operand. -/
theorem compareOrdersUnsigned : Obligations.CompareOrdersUnsigned := by
  unfold Obligations.CompareOrdersUnsigned
  intro orders s
  obtain ⟨cpN, cpR, cpHL⟩ := forms_of_setRegs (g := fun g v => { g with f := diffFlags g v false }) cpA_eq s
  exact ⟨fun n => ⟨_, cpN n, diffFlags_orders s.regs n⟩, fun q => ⟨_, cpR q, diffFlags_orders s.regs (s.regs.get8 q)⟩,
    ⟨_, cpHL, diffFlags_orders s.regs (memRead s.hl s).1⟩⟩

/-! ### Calls and returns (R312, R318, R320) -/

/-- A call is two writes, the high byte of pc at SP - 1 and then its low byte at SP - 2, and one write of SP and pc. -/
theorem callTo_spec (a : Word) (s : State) :
    callTo a s = (memWrite (s.regs.sp - 2) (lo8 s.regs.pc) (memWrite (s.regs.sp - 1) (hi8 s.regs.pc) s)).setRegs
      { s.regs with sp := s.regs.sp - 2, pc := a } := by
  rw [callTo, push16_spec]; rfl

/-- A return is two reads, the low byte of pc at SP and then its high byte at SP + 1, and one write of SP and pc. -/
theorem returnTo_spec (s : State) :
    returnTo s = (memRead (s.regs.sp + 1) (memRead s.regs.sp s).2).2.setRegs
      { s.regs with
        pc := pair16 (memRead (s.regs.sp + 1) (memRead s.regs.sp s).2).1 (memRead s.regs.sp s).1
        sp := s.regs.sp + 2 } := by
  rw [returnTo, pop16_spec]; rfl

/-- Settles O28: every form is `callTo` at its target, CALL cc where the condition holds. -/
theorem callResults : Obligations.CallResults := by
  unfold Obligations.CallResults
  intro called s
  have call (a : Word) : callTo a s = called s a := callTo_spec a s
  refine ⟨fun a => ?callN16, fun cc a => ?callCC, fun f => ?rst⟩
  case callN16 => simp only [exec, execCallN16, call]
  case callCC => simp only [exec, execCallCC, call]
  case rst => simp only [exec, execRst, call, zext16]

/-- Settles O29: every form is `returnTo`, RET cc where the condition holds; RETI writes IME and ei_delay after it. -/
theorem returnResults : Obligations.ReturnResults := by
  unfold Obligations.ReturnResults
  intro returned s
  have return_eq : returnTo s = returned s := returnTo_spec s
  refine ⟨?ret, fun cc => ?retCC, ?reti⟩
  case ret => simp only [exec, execRet, return_eq]
  case retCC => simp only [exec, execRetCC, return_eq]
  case reti => simp only [exec, execReti, returnFromInterrupt_spec, return_eq, State.setIme]

/-! ### A return after a call (R327) -/

/-- A return does not look at the pc it replaces. -/
theorem returnTo_setPc (a : Word) (s : State) : returnTo (s.setPc a) = returnTo s := by
  simp only [returnTo_spec, setPc_eq, memRead_setRegs, setRegs_regs, setRegs_setRegs]

/-- Where the stack is RAM the CPU can reach, a return undoes a call: every register is back, pc with them, and only the
two writes of the push remain. -/
theorem returnTo_callTo_ram (a : Word) (s : State) (k j : Nat) (hk : place s (s.regs.sp - 2) = .ram k)
    (hj : place s (s.regs.sp - 2 + 1) = .ram j) (hda : dmaHides s (s.regs.sp - 2) = false)
    (hdb : dmaHides s (s.regs.sp - 2 + 1) = false) :
    returnTo (callTo a s) = (push16 s.regs.pc s).setRegs s.regs := by
  rw [callTo, returnTo_setPc, returnTo, pop16_push16_ram _ s k j hk hj hda hdb]
  rfl

/-- Settles O30: the return gives every register back, and the call wrote only the two bytes below SP. -/
theorem callThenReturn : Obligations.CallThenReturn := by
  unfold Obligations.CallThenReturn
  intro s a j k hj hk hdb hda
  have hsp : s.regs.sp - 1 = s.regs.sp - 2 + 1 := by bv_omega
  rw [hsp] at hj hdb ⊢
  have back := returnTo_callTo_ram a s k j hk hj hda hdb
  refine ⟨callTo a s, _, rfl, rfl, congrArg Host.Outcome.next back, rfl, fun b hhigh hlow => ?_⟩
  rw [peek_setRegs, peek_push16_ram _ b s k j hk hj hda hdb, if_neg hlow, if_neg hhigh]

/-! ### Jumps (R310, R313 to R317) -/

/-- Settles O27: each is one write of pc, in the conditional forms where the condition of R97 holds. -/
theorem jumpResults : Obligations.JumpResults := by
  unfold Obligations.JumpResults
  intro holds s
  have cond_eq (cc : Cond) : cond s.regs.f cc = holds cc s.regs.f := by cases cc <;> rfl
  refine ⟨fun a => ?jpN16, ?jpHL, fun e => ?jrE8, fun cc a => ?jpCC, fun cc e => ?jrCC⟩
  case jpN16 => simp only [exec, execJpN16, setPc_eq]
  case jpHL => simp only [exec, execJpHL, setPc_eq, State.hl, getR16_eq]
  case jrE8 => simp only [exec, execJrE8, jumpRelative, setPc_eq, sext16]
  case jpCC => simp only [exec, execJpCC, setPc_eq, cond_eq]
  case jrCC => simp only [exec, execJrCC, jumpRelative, setPc_eq, cond_eq, sext16]

end Sys2Proof.Machine
end

section
/-!
PROOFS. The system instructions, HALT and STOP over a step, and KEY1 (46_system.md R341 to R346, 60_exceptions.md R364 to
R366 and R400). A machine that Halted or Stopped no longer holds is served as a running one: both obligations on leaving
them turn on that.
-/

namespace Sys2Proof.Machine

/-! ### STOP with a speed switch prepared, and without (R346, R400) -/

/-- On CGB with KEY1 bit 0 set, STOP changes KEY1 only, requests pending or not. -/
theorem exec_stop_of_prepared (n : Byte) (s : State) (hv : s.cfg.variant = .cgb) (hp : s.key1.prepare = true) :
    exec (.stop n) s = .next { s with key1 := { speed := !s.key1.speed, prepare := false } } := by
  simp [exec, execStop, hv, hp, State.setKey1]

/-- On DMG, or with KEY1 bit 0 clear, STOP is refused with a request pending and stops the machine without one. -/
theorem exec_stop_of_not_prepared (n : Byte) (s : State) (h : s.cfg.variant = .dmg ∨ s.key1.prepare = false) :
    exec (.stop n) s = if pending s = 0 then .next { s with mode := .stopped } else .refused .stopPending := by
  have hno : (s.cfg.variant == .cgb && s.key1.prepare) = false := by
    obtain hv | hp := h
    · rw [hv]; rfl
    · rw [hp, Bool.and_false]
  by_cases hz : pending s = 0 <;> simp [exec, execStop, hno, hz, State.setMode]

/-- HALT is refused with IME = 0 and a request pending, and stops fetching otherwise (R344, R365). -/
theorem exec_halt (s : State) :
    exec .halt s =
      if s.ime = false ∧ pending s ≠ 0 then .refused .haltPending else .next { s with mode := .halted } := by
  simp [exec, execHalt, State.setMode]

/-! ### The results of the system instructions -/

/-- Settles O31: EI is the one that looks at IME. -/
theorem nopDiAndEiResults : Obligations.NopDiAndEiResults := by
  unfold Obligations.NopDiAndEiResults
  intro s
  refine ⟨rfl, rfl, fun hoff => ?_, fun hon => ?_⟩
  · simp only [exec, execEi, hoff, Bool.false_eq_true, if_false, State.setIme]
  · simp only [exec, execEi, hon, if_true]

/-- Settles O32: the two cases are the branches of `exec_halt`. -/
theorem haltCompletesOrIsRefused : Obligations.HaltCompletesOrIsRefused := by
  unfold Obligations.HaltCompletesOrIsRefused
  intro s
  refine ⟨fun h => ?completes, fun hoff hp => ?refused⟩
  case refused => exact (exec_halt s).trans (if_pos ⟨hoff, hp⟩)
  case completes =>
    refine (exec_halt s).trans (if_neg fun ⟨hoff, hp⟩ => ?_)
    obtain hon | hz := h
    · simp [hon] at hoff
    · exact hp hz

/-- Settles O33: STOP looks at KEY1 first and at the requests only where no speed switch is prepared. -/
theorem stopCompletesOrIsRefused : Obligations.StopCompletesOrIsRefused := by
  unfold Obligations.StopCompletesOrIsRefused
  intro s n
  refine ⟨exec_stop_of_prepared n s, fun h hz => ?stops, fun h hp => ?refused⟩
  case stops => exact (exec_stop_of_not_prepared n s h).trans (if_pos hz)
  case refused => exact (exec_stop_of_not_prepared n s h).trans (if_neg hp)

/-! ### KEY1 (R400) -/

theorem ioRegAt_key1_iff (v : Variant) (a : Word) : ioRegAt v a = some .key1 ↔ v = .cgb ∧ a = 0xFF4D :=
  ioRegAt_gbcOnly_iff v a 0xFF4D .key1 (by decide) (by decide)

theorem place_key1 (s : State) : place s 0xFF4D = .device :=
  place_device s 0xFF4D (by decide) (by decide) (by decide)

/-- A write of KEY1 on CGB is recorded and takes bit 0 of the byte. -/
theorem memWrite_key1 (v : Byte) (s : State) (hv : s.cfg.variant = .cgb) :
    memWrite 0xFF4D v s = (s.logWrite 0xFF4D v).setKey1 { s.key1 with prepare := v.getLsbD 0 } := by
  have hreg : ioRegAt s.cfg.variant 0xFF4D = some .key1 := (ioRegAt_key1_iff _ _).2 ⟨hv, rfl⟩
  simp only [memWrite_of_device _ _ _ (place_key1 s), deviceWrite, hreg, logWrite_key1]

/-- A read of KEY1 on CGB, outside an OAM DMA, has the two bits of KEY1 in a free byte. -/
theorem memRead_key1 (s : State) (hv : s.cfg.variant = .cgb) (hd : s.oamDma = false) :
    (memRead 0xFF4D s).1 = key1Byte s.key1 (drawByte 0xFF4D s).1 := by
  have hreg : ioRegAt s.cfg.variant 0xFF4D = some .key1 := (ioRegAt_key1_iff _ _).2 ⟨hv, rfl⟩
  have hreach : dmaHides s 0xFF4D = false := dmaHides_of_no_dma s _ hd
  simp only [memRead, hreach, Bool.false_eq_true, if_false, place_key1, deviceRead, hreg]

theorem key1Byte_bits (k : Key1) (v : Byte) :
    (key1Byte k v).getLsbD 7 = k.speed ∧ (key1Byte k v).getLsbD 0 = k.prepare := by
  obtain ⟨speed, prepare⟩ := k
  cases speed <;> cases prepare <;> simp [key1Byte]

/-- Settles O57: the write sets the field that a read shows and STOP looks at, and leaves the variant and the OAM DMA as
they are. -/
theorem key1AndSpeedSwitch : Obligations.Key1AndSpeedSwitch := by
  unfold Obligations.Key1AndSpeedSwitch
  intro s v n hv t
  have ht : t = (s.logWrite 0xFF4D v).setKey1 { s.key1 with prepare := v.getLsbD 0 } := memWrite_key1 v s hv
  have hkey : t.key1 = { speed := s.key1.speed, prepare := v.getLsbD 0 } := by rw [ht]; rfl
  have hvt : t.cfg.variant = .cgb := by rw [ht]; exact hv
  have hdma : t.oamDma = s.oamDma := by rw [ht]; rfl
  refine ⟨hkey, fun hd => ?read, fun hset => ?switch⟩
  case read =>
    rw [memRead_key1 t hvt (hdma.trans hd), hkey]
    exact key1Byte_bits _ _
  case switch =>
    rw [exec_stop_of_prepared n t hvt (by rw [hkey]; exact hset), hkey]

/-! ### Leaving Halted and Stopped (R344, R346, R366) -/

theorem serve_of_halted_idle (d : State) (hm : d.mode = .halted) (hp : pending d = 0) : serve d = .next d :=
  if_pos ⟨hm, hp⟩

/-- A machine that Halted does not hold is served as the running machine: of the mode, serving asks only that. -/
theorem serve_as_running (d : State) (h : d.mode = .halted → pending d ≠ 0) :
    serve d = serve (d.setMode .running) := by
  have hgo : ¬(d.mode = .halted ∧ pending d = 0) := fun ⟨hm, hp⟩ => h hm hp
  have hwake : wake (d.setMode .running) = wake d := rfl
  simp only [serve, hgo, hwake, setMode_mode, reduceCtorEq, false_and, if_false]

/-- A step of the machine made running, with no event before it, serves that machine. -/
theorem step_running_without_events (d : State) :
    step { d with mode := .running, inbox := [] :: d.inbox } = serve (d.setMode .running) :=
  step_of_serving _ nofun nofun

/-- A step of a machine that Halted does not hold after what the devices did is the step of the running machine. -/
theorem serve_eq_step_running (d : State) (h : d.mode = .halted → pending d ≠ 0) :
    serve d = step { d with mode := .running, inbox := [] :: d.inbox } :=
  (serve_as_running d h).trans (step_running_without_events d).symm

theorem deliverInbox_mode (s : State) : (deliverInbox s).2.mode = s.mode :=
  congrArg Control.mode (deliverInbox_control s)

theorem deliverInbox_ime (s : State) : (deliverInbox s).2.ime = s.ime :=
  congrArg Control.ime (deliverInbox_control s)

/-- A machine with IME = 1 and a request pending takes an interrupt, which leaves it running. -/
theorem serve_due_mode (d t : State) (hi : d.ime = true) (hp : pending d ≠ 0) (h : serve d = .next t) :
    t.mode = .running := by
  obtain ⟨k, hk⟩ := Option.ne_none_iff_exists'.1 (mt (firstPending_none_iff (pending d)).1 hp)
  rw [serve_of_due d k hi hk] at h
  obtain ⟨_, rfl⟩ := (unlessOutOfSpec_next _ _).1 h
  exact congrArg Control.mode (enterInterrupt_control k (wake d))

/-- Settles O38: a step of a halted machine serves what the devices left, and serving idles only without a request. -/
theorem haltIdlesAndWakes : Obligations.HaltIdlesAndWakes := by
  unfold Obligations.HaltIdlesAndWakes
  intro s hm d
  have hserve : step s = serve d := step_of_serving s (by simp [hm]) (by simp [hm])
  have hmode : d.mode = .halted := (deliverInbox_mode s).trans hm
  refine ⟨fun hz => ?idles, fun hp => ?wakes, fun t hp ht hi => ?running⟩
  case idles => exact hserve.trans (serve_of_halted_idle d hmode hz)
  case wakes => exact hserve.trans (serve_eq_step_running d fun _ => hp)
  case running => exact serve_due_mode d t ((deliverInbox_ime s).trans hi) hp (hserve.symm.trans ht)

/-- A stopped machine keeps what the devices left where the joypad event is not among what they did, and serves it where
it is. -/
theorem step_of_stopped (s : State) (h : s.mode = .stopped) :
    step s = if (deliverInbox s).1 = false then .next (deliverInbox s).2 else serve (deliverInbox s).2 := by
  simp only [step, stepOnce, deliverInbox_mode, h, reduceCtorEq, if_false, true_and]

theorem deliverInbox_nil (s : State) (h : s.inbox = []) : deliverInbox s = (false, s) := by
  simp only [deliverInbox, h]

theorem deliverInbox_cons (s : State) (es : List DevEvent) (rest : List (List DevEvent)) (h : s.inbox = es :: rest) :
    deliverInbox s = (es.contains .joypadLow, deliverAll es { s with inbox := rest }) := by
  simp only [deliverInbox, h, State.setInbox]

/-- What device events leave alone: every field but IF, the LCD mode, memory, the transfers and the running clock. -/
theorem deliverAll_frame (es : List DevEvent) (s : State) :
    let t := deliverAll es s
    t = { s with ifReg := t.ifReg, lcdMode := t.lcdMode, mem := t.mem, oamDma := t.oamDma, vramDma := t.vramDma
                 cart := { s.cart with live := t.cart.live } } := by
  obtain ⟨i, l, m, o, v, c, h⟩ := deliverAll_state es s
  rw [h]

/-- Settles O39: only the joypad event ends the wait, the machine it ends for is not halted, and device events write
neither the mode nor the inbox. -/
theorem stopEndsByJoypadOnly : Obligations.StopEndsByJoypadOnly := by
  unfold Obligations.StopEndsByJoypadOnly
  refine ⟨fun s hm => ⟨fun hq => ?empty, fun es rest hq => ?entry⟩, deliverAll_frame⟩
  case empty => rw [step_of_stopped s hm, deliverInbox_nil s hq, if_pos rfl]
  case entry =>
    have hstep := step_of_stopped s hm
    rw [deliverInbox_cons s es rest hq] at hstep
    refine ⟨fun hno => ?stays, fun hjoy => ?leaves⟩
    case stays => exact hstep.trans (if_pos (by simpa using hno))
    case leaves =>
      have hd := deliverAll_frame es { s with inbox := rest }
      have hmode : (deliverAll es { s with inbox := rest }).mode = .stopped := (congrArg State.mode hd).trans hm
      have hinbox : (deliverAll es { s with inbox := rest }).inbox = rest := congrArg State.inbox hd
      have hwakes := serve_eq_step_running (deliverAll es { s with inbox := rest }) (by simp [hmode])
      rw [hinbox] at hwakes
      exact (hstep.trans (if_neg (by simpa using hjoy))).trans hwakes

end Sys2Proof.Machine
end

section
/-!
PROOFS. Interrupt entry, and the return from one (60_exceptions.md R366 to R369, R372). Entry is a call to the vector
from the state with IME, ei_delay and the served request cleared, so that a RETI straight after it is a return after a
call.
-/

namespace Sys2Proof.Machine

/-! ### Entry (R366, R367, R368) -/

/-- The state that interrupt entry calls the vector from: IME, ei_delay and the request of the source cleared (R368). -/
def acknowledge (k : Irq) (s : State) : State := (s.setIme false false).setIf (s.ifReg &&& ~~~k.mask)

theorem takeInterrupt_eq_callTo (k : Irq) (s : State) : takeInterrupt k s = callTo k.vector (acknowledge k s) := rfl

/-- The vectors stand at $0040, 8 bytes apart (R363). -/
theorem vector_eq (k : Irq) : k.vector = BitVec.ofNat 16 (0x40 + 8 * k.index) := by
  cases k <;> rfl

/-- A step of a running or halted machine with IME = 1 and a request pending is the entry of the first one. -/
theorem step_of_due (s : State) (k : Irq) (hm : s.mode = .running ∨ s.mode = .halted)
    (hi : (deliverInbox s).2.ime = true) (hk : firstPending (pending (deliverInbox s).2) = some k) :
    step s = unlessOutOfSpec (enterInterrupt k (wake (deliverInbox s).2)) := by
  have hl : s.mode ≠ .locked := by obtain h | h := hm <;> simp [h]
  have hs : s.mode ≠ .stopped := by obtain h | h := hm <;> simp [h]
  rw [step_of_serving s hl hs, serve_of_due _ k hi hk]

/-- Settles O36: the lowest-numbered request is the first, and its entry is a call to its vector. -/
theorem interruptEntry : Obligations.InterruptEntry := by
  unfold Obligations.InterruptEntry
  intro s k d hm hi hset hlow s1 s2
  have hstep := step_of_due s k hm hi ((firstPending_some _ k).2 ⟨hset, hlow⟩)
  have hentry : enterInterrupt k (wake d) =
      { s2 with regs := { d.regs with sp := d.regs.sp - 2, pc := BitVec.ofNat 16 (0x40 + 8 * k.index) }
                clk := s2.clk + 5 } := by
    rw [enterInterrupt, takeInterrupt_eq_callTo, callTo_spec, vector_eq]
    rfl
  rw [hentry] at hstep
  exact ⟨fun ho => hstep.trans ((unlessOutOfSpec_next _ _).2 ⟨ho, rfl⟩),
    fun ho => hstep.trans ((unlessOutOfSpec_refused _ _).2 ⟨ho, rfl⟩)⟩

/-! ### The return from an interrupt (R369, R372) -/

/-- A push into RAM the CPU can reach changes SP and memory, and nothing else. -/
theorem push16_ram (v : Word) (s : State) (k j : Nat) (hk : place s (s.regs.sp - 2) = .ram k)
    (hj : place s (s.regs.sp - 1) = .ram j) (hda : dmaHides s (s.regs.sp - 2) = false)
    (hdb : dmaHides s (s.regs.sp - 1) = false) :
    ∃ m, push16 v s = { s with regs := { s.regs with sp := s.regs.sp - 2 }, mem := m } := by
  obtain ⟨hp, hd⟩ := place_and_dmaHides_memWrite_ram (s.regs.sp - 1) (s.regs.sp - 2) (hi8 v) s j hj hdb
  rw [push16_spec, memWrite_of_ram _ _ _ k (hp.trans hk) (hd.trans hda), memWrite_of_ram _ _ _ j hj hdb]
  exact ⟨_, rfl⟩

/-- Settles O37: the return undoes the call that entry is, and entry changed no register before it. -/
theorem interruptThenReti : Obligations.InterruptThenReti := by
  unfold Obligations.InterruptThenReti
  intro s k j i hj hi hdb hda
  have hsp : s.regs.sp - 1 = s.regs.sp - 2 + 1 := by bv_omega
  obtain ⟨m, hpush⟩ := push16_ram s.regs.pc (acknowledge k s) i j hi hj hda hdb
  rw [hsp] at hj hdb ⊢
  have back : exec .reti (takeInterrupt k s) =
      .next (((push16 s.regs.pc (acknowledge k s)).setRegs s.regs).setIme true false) := by
    simp only [exec, execReti, returnFromInterrupt_spec, takeInterrupt_eq_callTo]
    rw [returnTo_callTo_ram k.vector (acknowledge k s) i j hi hj hda hdb]
    rfl
  refine ⟨_, back, rfl, rfl, rfl, by rw [hpush]; rfl, fun b hhigh hlow => ?_⟩
  calc peek (((push16 s.regs.pc (acknowledge k s)).setRegs s.regs).setIme true false) b
      = peek (push16 s.regs.pc (acknowledge k s)) b := rfl
    _ = peek (acknowledge k s) b := by
        rw [peek_push16_ram s.regs.pc b (acknowledge k s) i j hi hj hda hdb]
        exact (if_neg hlow).trans (if_neg hhigh)
    _ = peek s b := rfl

end Sys2Proof.Machine
end

section
/-!
PROOFS. The step of a running machine with no interrupt due (20_memory.md R73, 60_exceptions.md R366,
70_reset_and_hazards.md R462): the fetch decodes the bytes at pc, and the step ends as the instruction fetched does.
-/

namespace Sys2Proof.Machine

/-- Where three bytes of plain memory at pc decode to an instruction, that is the one fetched, and pc moves past it. -/
theorem fetchInstr_of_decode (s : State) (b0 b1 b2 : Byte) (i : Instr) (rest : List Byte)
    (h : decode [b0, b1, b2] = .ok (i, rest)) (h0 : peek s s.regs.pc = some b0)
    (h1 : 2 ≤ i.size → peek s (s.regs.pc + 1) = some b1) (h2 : 3 ≤ i.size → peek s (s.regs.pc + 2) = some b2) :
    fetchInstr s = (i, s.setPc (s.regs.pc + BitVec.ofNat 16 i.size)) := by
  obtain ⟨_, _, _, _, hi⟩ := decode_ok _ _ _ h
  obtain rfl : i = decodeBytes b0 b1 b2 := hi
  rw [size_decodeBytes] at h1 h2 ⊢
  exact fetchInstr_of_peek s b0 b1 b2 h0 h1 h2

/-- A fetch within the memory map, and an instruction that answers a next state. -/
theorem runInstr_of_next (s d t : State) (i : Instr) (hf : fetchInstr s = (i, d)) (ho : d.outOfSpec = false)
    (h : exec i d = .next t) :
    runInstr s = unlessOutOfSpec (finishInstr s.eiDelay i (clkOf i s.regs.f) t) := by
  simp [runInstr, hf, ho, h]

/-- A fetch within the memory map, and an instruction that is refused. -/
theorem runInstr_of_refused (s d : State) (i : Instr) (r : Refusal) (hf : fetchInstr s = (i, d))
    (ho : d.outOfSpec = false) (h : exec i d = .refused r) : runInstr s = .refused r := by
  simp [runInstr, hf, ho, h]

/-- The end of an EI's delay: after any instruction but DI and the undefined opcodes (R32; log 20). -/
theorem finishInstr_of_enables (ei : Bool) (i : Instr) (n : Nat) (t : State)
    (h : ei = true ∧ i ∉ .di :: undefinedOpcodes) : finishInstr ei i n t = (t.tick n).setIme true false := by
  obtain ⟨rfl, hi⟩ := h
  simp [finishInstr, (enablesAfter_iff i).2 hi]

theorem finishInstr_of_not_enables (ei : Bool) (i : Instr) (n : Nat) (t : State)
    (h : ¬(ei = true ∧ i ∉ .di :: undefinedOpcodes)) : finishInstr ei i n t = t.tick n := by
  rw [← enablesAfter_iff, ← Bool.and_eq_true, Bool.not_eq_true] at h
  simp [finishInstr, h]

theorem finishInstr_outOfSpec (ei : Bool) (i : Instr) (n : Nat) (t : State) :
    (finishInstr ei i n t).outOfSpec = t.outOfSpec := by
  unfold finishInstr
  dsimp only
  split <;> rfl

/-- Settles O35: the step serves the running machine by its next instruction, which is the one decoded. -/
theorem stepRunsDecodedInstruction : Obligations.StepRunsDecodedInstruction := by
  unfold Obligations.StepRunsDecodedInstruction
  intro holds clk s b0 b1 b2 i rest d hm hp hdec h0 h1 h2 s1 takesEffect
  have clk_eq : clkOf i d.regs.f = clk i d.regs.f := by
    cases i
    case jrCC cc _ | jpCC cc _ | retCC cc | callCC cc _ => cases cc <;> rfl
    all_goals rfl
  have hmode : d.mode = .running := (deliverInbox_mode s).trans hm
  have hei : (wake d).eiDelay = s.eiDelay := congrArg Control.eiDelay (deliverInbox_control s)
  have hstep : step s = runInstr (wake d) := by
    rw [step_of_serving s (by simp [hm]) (by simp [hm]), serve_of_none_due d hmode hp]
  have hfetch : fetchInstr (wake d) = (i, s1) := by
    have hwake : wake d = d.setOutOfSpec false := congrArg (State.setOutOfSpec · false) (setMode_self d _ hmode)
    rw [hwake]
    exact fetchInstr_of_decode (d.setOutOfSpec false) b0 b1 b2 i rest hdec h0 h1 h2
  have hnext (t : State) (ht : exec i s1 = .next t) :
      step s = unlessOutOfSpec (finishInstr s.eiDelay i (clk i d.regs.f) t) := by
    rw [hstep, runInstr_of_next (wake d) s1 t i hfetch rfl ht, hei, ← clk_eq]
    rfl
  refine ⟨fun t ht ho => ?next, fun t ht ho => ?outOfSpec, fun r hr => ?refused⟩
  case next =>
    have hdone := (hnext t ht).trans ((unlessOutOfSpec_next _ _).2 ⟨(finishInstr_outOfSpec ..).trans ho, rfl⟩)
    refine ⟨fun he => ?_, fun he => ?_⟩
    · rw [hdone, finishInstr_of_enables _ i _ t he]; rfl
    · rw [hdone, finishInstr_of_not_enables _ i _ t he]; rfl
  case outOfSpec =>
    exact (hnext t ht).trans ((unlessOutOfSpec_refused _ _).2 ⟨(finishInstr_outOfSpec ..).trans ho, rfl⟩)
  case refused => exact hstep.trans (runInstr_of_refused (wake d) s1 i r hfetch rfl hr)

end Sys2Proof.Machine
end

section
/-!
PROOFS. What a step is refused for (20_memory.md R52, 60_exceptions.md R360, R365, 70_reset_and_hazards.md R466). Of
the instructions only HALT and STOP are refused, and the out-of-spec marker is set under UNMAPPED_ACCESS = refuse alone:
under oracle every building block of a step leaves it clear.
-/

namespace Sys2Proof.Machine

/-! ### Instructions (R365) -/

/-- No instruction is refused but HALT and STOP, each with a request pending. -/
theorem exec_refused_cases (i : Instr) (s : State) (r : Refusal) (h : exec i s = .refused r) :
    pending s ≠ 0 ∧ ((i = .halt ∧ r = .haltPending) ∨ (∃ n, i = .stop n ∧ r = .stopPending)) := by
  cases i
  case halt =>
    rw [exec_halt] at h
    split at h
    · rename_i hp
      exact ⟨hp.2, .inl ⟨rfl, (Host.Outcome.refused.inj h).symm⟩⟩
    · cases h
  case stop n =>
    simp only [exec, execStop] at h
    split at h
    · cases h
    · split at h
      · rename_i hp
        exact ⟨by simpa using hp, .inr ⟨n, rfl, (Host.Outcome.refused.inj h).symm⟩⟩
      · cases h
  all_goals cases h

/-! ### The out-of-spec marker (R52, R466) -/

/-- The machine draws a free byte at an unmapped address, and the out-of-spec marker is clear. -/
def withinOracle (s : State) : Prop := s.cfg.unmapped = .oracle ∧ s.outOfSpec = false

theorem memRead_withinOracle (a : Word) (s : State) (h : withinOracle s) : withinOracle (memRead a s).2 := by
  obtain ⟨hcfg, hclear⟩ := h
  have hcfg' : (memRead a s).2.cfg.unmapped = .oracle := by rw [memRead_cfg, hcfg]
  exact ⟨hcfg', memRead_inSpec a s (fun _ => hclear) hcfg'⟩

theorem memWrite_withinOracle (a : Word) (v : Byte) (s : State) (h : withinOracle s) :
    withinOracle (memWrite a v s) := by
  obtain ⟨hcfg, hclear⟩ := h
  have hcfg' : (memWrite a v s).cfg.unmapped = .oracle := by rw [memWrite_cfg, hcfg]
  exact ⟨hcfg', memWrite_inSpec a v s (fun _ => hclear) hcfg'⟩

theorem deliver_withinOracle (e : DevEvent) (s : State) (h : withinOracle s) : withinOracle (deliver e s) := by
  obtain ⟨i, l, m, o, v, c, hd⟩ := deliver_state e s
  rw [hd]; exact h

theorem stepKeeps_withinOracle : StepKeeps withinOracle where
  read := memRead_withinOracle
  write := memWrite_withinOracle
  regs _ _ h := h
  ime _ _ _ h := h
  mode _ _ h := h
  key1 _ _ h := h
  event := deliver_withinOracle
  inbox _ _ h := h
  setIf _ _ h := h
  tick _ _ h := h
  clearMarker _ h := ⟨h.1, rfl⟩

/-- A step clears the marker before its first access. -/
theorem awake_withinOracle (s : State) (h : s.cfg.unmapped = .oracle) : withinOracle (awake s) := by
  obtain ⟨q, i, l, m, o, v, c, ha⟩ := awake_state s
  rw [ha]; exact ⟨h, rfl⟩

theorem not_outOfSpec_of_withinOracle (s : State) (h : withinOracle s) : ¬s.outOfSpec = true := by
  rw [h.2]; nofun

/-- Under UNMAPPED_ACCESS = oracle only an instruction that is itself refused refuses the step. -/
theorem step_refused_of_oracle (s : State) (r : Refusal) (ho : s.cfg.unmapped = .oracle) (h : step s = .refused r) :
    exec (fetchInstr (awake s)).1 (fetchInstr (awake s)).2 = .refused r := by
  have hP := stepKeeps_withinOracle
  have ha := awake_withinOracle s ho
  have hf := hP.toKeeps.fetchInstr _ ha
  obtain ⟨hr, _⟩ | ⟨_, ⟨k, hk⟩ | hk | ⟨u, hu, hk⟩⟩ := step_refused_cases s r h
  · exact hr
  · exact absurd hk (not_outOfSpec_of_withinOracle _ (hP.enterInterrupt k _ ha))
  · exact absurd hk (not_outOfSpec_of_withinOracle _ hf)
  · exact absurd hk (not_outOfSpec_of_withinOracle _ (hP.finishInstr _ _ _ _ (exec_keeps hP.toKeeps _ _ _ hu hf)))

/-- What is pending before an instruction is pending after its fetch. -/
theorem pending_fetchInstr_awake (s : State) : pending (fetchInstr (awake s)).2 = pending (deliverInbox s).2 := by
  obtain ⟨p, q, o, h⟩ := fetchInstr_state (awake s)
  rw [h]; rfl

/-- Settles O48: there is no fault at all, and a refusal is the instruction's or that of an unmapped access. -/
theorem onlyHaltAndStopAreRefused : Obligations.OnlyHaltAndStopAreRefused := by
  unfold Obligations.OnlyHaltAndStopAreRefused
  refine fun s => ⟨nofun, fun r h => ?_⟩
  have instr (hr : exec (fetchInstr (awake s)).1 (fetchInstr (awake s)).2 = .refused r) := exec_refused_cases _ _ r hr
  rw [pending_fetchInstr_awake] at instr
  cases hu : s.cfg.unmapped with
  | oracle => exact .inl (instr (step_refused_of_oracle s r hu h))
  | refuse =>
    obtain ⟨hr, _⟩ | ⟨hr, _⟩ := step_refused_cases s r h
    · exact .inl (instr hr)
    · exact .inr ⟨rfl, hr⟩

end Sys2Proof.Machine
end

section
/-!
PROOFS. IF and IE as the CPU and the devices reach them (60_exceptions.md R361, R362, R364), and memory at reset
(70_reset_and_hazards.md R440).
-/

namespace Sys2Proof.Machine

/-! ### IF and IE on the bus (R361, R362) -/

theorem place_if (s : State) : place s 0xFF0F = .ifReg := rfl

theorem place_ie (s : State) : place s 0xFFFF = .ieReg := rfl

theorem memWrite_if (v : Byte) (s : State) : memWrite 0xFF0F v s = s.setIf (v.setWidth 5) := by
  simp only [memWrite, place_if]

theorem memWrite_ie (v : Byte) (s : State) : memWrite 0xFFFF v s = s.setIe v := by
  simp only [memWrite, place_ie]

theorem memRead_if (s : State) (h : s.oamDma = false) : memRead 0xFF0F s = (ifByte s, s) := by
  simp only [memRead, dmaHides_of_no_dma s _ h, place_if, Bool.false_eq_true, if_false]

theorem memRead_ie (s : State) (h : s.oamDma = false) : memRead 0xFFFF s = (s.ie, s) := by
  simp only [memRead, dmaHides_of_no_dma s _ h, place_ie, Bool.false_eq_true, if_false]

/-- Five bits kept of a byte are the byte masked by $1F. -/
theorem setWidth_five_setWidth (v : Byte) : (v.setWidth 5).setWidth 8 = v &&& 0x1F := by
  revert v; decide

/-- Settles O51: each write sets its register, which the read at the same address shows. -/
theorem ifAndIeReadBack : Obligations.IfAndIeReadBack := by
  unfold Obligations.IfAndIeReadBack
  intro s v
  refine ⟨memWrite_if v s, memWrite_ie v s, fun hd => ⟨?readIf, ?readIe⟩⟩
  case readIf => rw [memWrite_if, memRead_if (s.setIf (v.setWidth 5)) hd, ifByte, setIf_ifReg, setWidth_five_setWidth]
  case readIe => rw [memWrite_ie, memRead_ie (s.setIe v) hd, setIe_ie]

/-! ### Requests (R364) -/

/-- The request bit of a source is its own number's, and no other. -/
theorem mask_getLsbD (k : Irq) : ∀ b < 5, k.mask.getLsbD b = decide (b = k.index) := by
  cases k <;> decide

/-- Settles O40: the request is an OR with the source's bit. -/
theorem deviceRequestSetsIfBit : Obligations.DeviceRequestSetsIfBit := by
  unfold Obligations.DeviceRequestSetsIfBit
  intro s k b hb
  have hif : (deliver (.request k) s).ifReg = s.ifReg ||| k.mask := rfl
  exact ⟨by rw [hif, BitVec.getLsbD_or, mask_getLsbD k b hb], rfl⟩

/-! ### Reset (R440) -/

/-- Settles O43: memory at reset lists nothing. -/
theorem resetMemoryIsCanonical : Obligations.ResetMemoryIsCanonical := by
  unfold Obligations.ResetMemoryIsCanonical
  exact (rfl : Memory.wf [] = true)

end Sys2Proof.Machine
end

section
/-!
PROOFS. The OAM DMA (60_exceptions.md R396, U15; log 11). The copy writes OAM only, so the page it reads from, where
that is ROM or work RAM, shows until the last byte what it showed before the first.
-/

namespace Sys2Proof.Machine

/-! ### The page (R396) -/

/-- The address of byte i of a page. -/
theorem pair16_toNat (v : Byte) (i : Nat) (hi : i < 256) :
    (pair16 v (BitVec.ofNat 8 i)).toNat = v.toNat * 256 + i := by
  have hlo : (zext16 (BitVec.ofNat 8 i)).toNat = i := by simp [zext16]; omega
  have hhi : (zext16 v <<< 8).toNat = 2 ^ 8 * v.toNat := by
    have := v.isLt
    simp [zext16, Nat.shiftLeft_eq]; omega
  rw [pair16, BitVec.toNat_or, hlo, hhi, ← Nat.two_pow_add_eq_or_of_lt hi]
  omega

/-- ROM or work RAM (R51): memory that shows its byte to the copy, whatever the banks and the locks are. -/
def isRomOrWorkRam (a : Word) : Prop := a.toNat < 0x8000 ∨ (0xC000 ≤ a.toNat ∧ a.toNat < 0xE000)

theorem isRomOrWorkRam_of_page (v : Byte) (i : Nat) (hv : v.toNat < 0x80 ∨ (0xC0 ≤ v.toNat ∧ v.toNat < 0xE0))
    (hi : i < 256) : isRomOrWorkRam (pair16 v (BitVec.ofNat 8 i)) := by
  rw [isRomOrWorkRam, pair16_toNat v i hi]
  omega

/-- An address of ROM or work RAM selects a byte of memory, at a key outside OAM. -/
theorem place_of_isRomOrWorkRam (s : State) (a : Word) (h : isRomOrWorkRam a) :
    ∃ k, (place s a = .rom k ∨ place s a = .ram k) ∧ (k < 0xFE00 ∨ 0xFEA0 ≤ k) := by
  obtain h | ⟨h, h'⟩ := h
  · have hp := place_rom_of_lt s a h
    obtain ⟨_, hk⟩ := place_rom_key s a _ hp
    exact ⟨_, .inl hp, by omega⟩
  · have hp : ∃ k, place s a = .ram k := by
      by_cases hb : a.toNat < 0xD000
      · exact ⟨_, place_wram s a h hb⟩
      · exact ⟨_, place_wramBanked s a (by omega) h'⟩
    obtain ⟨k, hk⟩ := hp
    have := place_ram_key s a k hk
    exact ⟨k, .inr hk, by omega⟩

/-- Outside an OAM DMA, ROM and work RAM show the byte at that key. -/
theorem peek_of_place (s : State) (a : Word) (k : Nat) (hd : s.oamDma = false)
    (hp : place s a = .rom k ∨ place s a = .ram k) : peek s a = some (s.mem.read k) := by
  obtain hp | hp := hp <;> simp [peek, dmaHides_of_no_dma s a hd, hp]

/-! ### The copy (R396) -/

/-- During the copy ROM and work RAM show what they showed before it. -/
theorem peek_copyToOam (v : Byte) (n : Nat) (s : State) (a : Word) (hn : n ≤ 160) (hd : s.oamDma = false)
    (ha : isRomOrWorkRam a) : peek (copyToOam v n s) a = peek s a := by
  obtain ⟨k, hp, hk⟩ := place_of_isRomOrWorkRam s a ha
  obtain ⟨m, q, o, hc⟩ := copyToOam_state v n s
  have hread := copyToOam_read v n k s (by omega)
  rw [hc] at hread ⊢
  rw [peek_of_place s a k hd hp, peek_of_place { s with mem := m, queries := q, outOfSpec := o } a k hd hp, hread]

/-- Each byte copied is the one the page shows. -/
theorem copyToOam_copies (v : Byte) (n i : Nat) (s : State) (hi : i < n) (hn : n ≤ 160) (hd : s.oamDma = false)
    (hv : v.toNat < 0x80 ∨ (0xC0 ≤ v.toNat ∧ v.toNat < 0xE0)) :
    some ((copyToOam v n s).mem.read (0xFE00 + i)) = peek s (pair16 v (BitVec.ofNat 8 i)) := by
  induction n with
  | zero => omega
  | succ n ih =>
    simp only [copyToOam, poke_eq, setMem_mem]
    by_cases h : i = n
    · subst h
      have ha := isRomOrWorkRam_of_page v i hv (by omega)
      obtain ⟨k, hp, _⟩ := place_of_isRomOrWorkRam s _ ha
      have hshown := peek_of_place s _ k hd hp
      have hcopied := (peek_copyToOam v i s _ (by omega) hd ha).trans hshown
      rw [Memory.read_write_same, memRead_of_peek _ _ _ hcopied, hshown]
    · rw [Memory.read_write_other _ _ _ _ (by omega), memRead_mem]
      exact ih (by omega) (by omega)

theorem ioRegAt_dma (v : Variant) : ioRegAt v 0xFF46 = some .dma := by
  cases v <;> decide

/-- A write of $FF46 is recorded and starts the transfer. -/
theorem memWrite_dma (v : Byte) (s : State) : memWrite 0xFF46 v s = startOamDma v (s.logWrite 0xFF46 v) := by
  rw [memWrite_of_device _ _ _ (place_device s 0xFF46 (by decide) (by decide) (by decide))]
  simp only [deviceWrite, ioRegAt_dma]

/-! ### While the transfer lasts (U15; log 11) -/

/-- What an OAM DMA hides reads a free byte. -/
theorem memRead_of_dmaHides (a : Word) (s : State) (h : dmaHides s a = true) : memRead a s = drawByte a s := by
  simp only [memRead, h, if_true]

/-- An OAM DMA hides every address of the map outside High RAM. -/
theorem dmaHides_of_dma (s : State) (a : Word) (hd : s.oamDma = true)
    (hh : ¬(0xFF80 ≤ a.toNat ∧ a.toNat < 0xFFFF)) (hu : ¬isUnmapped a = true) : dmaHides s a = true := by
  simp [dmaHides, isHighRam, hd, hh, hu]

/-- Of the devices' events one ends an OAM DMA, and none starts one. -/
theorem deliver_oamDma (e : DevEvent) (s : State) :
    (deliver e s).oamDma = false ↔ s.oamDma = false ∨ e = .oamDmaEnd := by
  cases e
  case oamDmaEnd => exact ⟨fun _ => .inr rfl, fun _ => rfl⟩
  case depositOam off v =>
    unfold deliver
    dsimp only
    split <;> simp
  all_goals simp [deliver]

theorem deliverAll_oamDma (es : List DevEvent) (s : State) :
    (deliverAll es s).oamDma = false ↔ s.oamDma = false ∨ .oamDmaEnd ∈ es := by
  induction es generalizing s with
  | nil => simp [deliverAll]
  | cons e rest ih => rw [deliverAll, ih, deliver_oamDma, List.mem_cons, or_assoc, eq_comm (a := e)]

/-- Settles O58: the write is the copy with the transfer set in progress; what hides the bus until the event that ends
it is that it is in progress. -/
theorem oamDmaCopiesPage : Obligations.OamDmaCopiesPage := by
  unfold Obligations.OamDmaCopiesPage
  refine ⟨fun s v i key hv hd hi hkey => ?copies, fun s v => ?inProgress, fun s a hd ha => ?hidden,
    fun s es hd => ?ends⟩
  case copies =>
    rw [memWrite_dma, startOamDma, setOamDma_mem]
    exact ⟨copyToOam_copies v 160 i (s.logWrite 0xFF46 v) hi le_rfl hd hv, copyToOam_read v 160 key _ hkey⟩
  case inProgress => rw [memWrite_dma, startOamDma, setOamDma_oamDma]
  case hidden =>
    have hout : ¬(0xFF80 ≤ a.toNat ∧ a.toNat < 0xFFFF) ∧ ¬isUnmapped a = true := by
      rw [isUnmapped_iff]
      obtain h | h | h | rfl := ha
      case inr.inr.inr => decide
      all_goals omega
    obtain ⟨hfar, hmapped⟩ := hout
    exact memRead_of_dmaHides a s (dmaHides_of_dma s a hd hfar hmapped)
  case ends => rw [deliverAll_oamDma, hd]; simp

end Sys2Proof.Machine
end
